-- ==== Sys2Proof/Word.lean ====
section
/-! DEFINITION. The words of the block: the widths spec/11_record_layouts.md and spec/00_scope.md give, and the
indices of modules, views and read-table entries. -/

namespace Sys2Proof

/-- One byte of memory. -/
abbrev Byte := BitVec 8

/-- A 32-bit field: frame numbers, counters, sequence words, command arguments (R170, R174). -/
abbrev Word := BitVec 32

/-- A 64-bit address field (R170). -/
abbrev Addr := BitVec 64

/-- A reading of the time count: 64 bits, in microseconds (00_scope.md, "Lines"). -/
abbrev Time := BitVec 64

/-- A module number, 0 to 3. Whether the integration provides it is `Config.modules`' matter. -/
abbrev ModuleId := Fin 4

/-- A view number: 0 for the recorder, 1 for the preview. -/
abbrev ViewId := Fin 2

/-- An entry of the view read table, 0 to 15 (R145). -/
abbrev EntryId := Fin 16

/-- The bytes a transaction may carry: 256, of which a transaction of length L uses the first L (1.1). -/
abbrev Payload := Vector Byte 256

end Sys2Proof
end

