-- ==== Sys2Proof/Config.lean ====
section
/-! DEFINITION. What an integration fixes (00_scope.md, "Integration parameters") and the free values: what the
manual leaves open is an opaque constant here, so that no proof can rest on a value of it. -/

namespace Sys2Proof

/-- How many camera modules the integration provides: 2 to 4 (00_scope.md). -/
inductive ModuleCount where
  | two
  | three
  | four
deriving DecidableEq, Repr

/-- The module count as a number. -/
def ModuleCount.toNat : ModuleCount → Nat
  | .two => 2
  | .three => 3
  | .four => 4

/-- The integration parameters: fixed in a chip, never changed by a command. -/
structure Config where
  /-- First byte of the camera carve-out. -/
  carveBase : Nat
  /-- Bytes of the carve-out. -/
  carveSize : Nat
  /-- First byte of the control page (CP, R2). -/
  controlPage : Nat
  /-- Modules the integration provides; they are numbered 0 upward. -/
  modules : ModuleCount
deriving DecidableEq, Repr

/-- The ranges of 00_scope.md: base and size multiples of 1 MiB, size 16 MiB to 4 GiB, the control page a
4 KiB-aligned page inside the carve-out. -/
def Config.wf (c : Config) : Bool :=
  c.carveBase % 1048576 == 0 && c.carveSize % 1048576 == 0
    && decide (16 * 1048576 ≤ c.carveSize) && decide (c.carveSize ≤ 4096 * 1048576)
    && c.controlPage % 4096 == 0 && decide (c.carveBase ≤ c.controlPage)
    && decide (c.controlPage + 4096 ≤ c.carveBase + c.carveSize)

/-- DESIGN CHOICE (log 2): the integration the machine is reset with, the one of section 1.11 with four modules.
No statement rests on it: `State.cfg` is read, never this. -/
def Config.resetIntegration : Config where
  carveBase := 0x80000000
  carveSize := 512 * 1048576
  controlPage := 0x80000000
  modules := .four

/-- FREE VALUE (log 7): a deadline whose sum of time count and limit needs more than 64 bits. The manual gives
deadlines 64 bits (R22, R145) and no rule for such a sum. -/
opaque Config.deadlineBeyond (serial time limit : Nat) : Time

/-- FREE VALUE (log 8): the header field of an offset outside the signed 32-bit range (R66, R178). -/
opaque Config.headerOffsetBeyond (offset : Int) : Word

/-- FREE VALUE (log 9): the "pacing view of the advance" of a snapshot that no advance caused (R177); the argument
numbers the Agent's writes. -/
opaque Config.snapshotView (write : Nat) : Byte

/-- FREE VALUE (log 9): the "output frame number of the advance" of a snapshot that no advance caused (R177). -/
opaque Config.snapshotFrame (write : Nat) : Word

/-- FREE VALUE (log 14): how many entries a dump had issued when a reset aborted it (R55), if more than its progress
shows; the argument names the command in flight. -/
opaque Config.dumpIssued (serial : Nat) : Nat

end Sys2Proof
end

