-- ==== Sys2Proof/Syntax.lean ====
section
/-! DEFINITION. The commands of the block, whole: one constructor of `Instr` per row of spec/opcode_table.json, and
the operands they carry. -/

namespace Sys2Proof

/-- What an upstream transaction asks (1.1): a read, or a write with its data. -/
inductive Access where
  | read
  | write (data : Payload)
deriving DecidableEq, Repr

/-- An upstream transaction (1.1): requester 0 to 255, start address, and length less one, so that every length is
1 to 256. Of a write's payload the first `len` bytes are its data. -/
structure Transaction where
  requester : Byte
  address : Addr
  lenLess1 : Byte
  access : Access
deriving DecidableEq, Repr

/-- The length L of a transaction, 1 to 256 bytes (1.1). -/
def Transaction.len (x : Transaction) : Nat := x.lenLess1.toNat + 1

/-- Memory's answer to an access at one of its ports: data (of which a read of L bytes takes the first L; a write
takes none), or an error (1.1, R150). -/
inductive MemAnswer where
  | data (bytes : Payload)
  | error
deriving DecidableEq, Repr

/-- What an event says of the memory accesses of a command in flight: bit j of `which` that access j is answered in it, bit j
of `errs` that it is answered with an error (log 19). -/
structure AccessAnswers (n : Nat) where
  which : BitVec n
  errs : BitVec n
deriving DecidableEq, Repr

/-- The commands of the block. Every one carries `t`, the time count at its event (log 1); a command of the command
cell carries `q`, its sequence word, and its arguments at their full width (R170, R174). -/
inductive Instr where
  /-- UPSTREAM_TRANSACTION (R1): `x` arrives at the upstream port. -/
  | upstreamTransaction (t : Time) (x : Transaction)
  /-- MEMORY_ANSWER (R17): memory answers the forwarded or translated transaction at answer place `place`. -/
  | memoryAnswer (t : Time) (place : Nat) (a : MemAnswer)
  /-- LIVENESS_EXPIRY (R33): the deadline of module `m` is looked at. -/
  | livenessExpiry (t : Time) (m : ModuleId)
  /-- REGISTRATION_COMPLETION (R121): the computation in flight ends. -/
  | registrationCompletion (t : Time)
  /-- FETCH_ANSWER (R150): memory answers source fetch `fetch`, which carries entry number `e` and use tag `tag`. -/
  | fetchAnswer (t : Time) (e : EntryId) (tag : Byte) (fetch : Nat) (a : MemAnswer)
  /-- FETCH_TIMEOUT (R153): the earliest deadline of entry `e` is looked at. -/
  | fetchTimeout (t : Time) (e : EntryId)
  /-- VIEW_READ_COMPLETION (R151): the answer of the COMPLETE entry `e` is formed. -/
  | viewReadCompletion (t : Time) (e : EntryId)
  /-- CONFIGURE_MODULE (R34). -/
  | configureModule (t : Time) (q m owner width height stride : Word) (start : Addr) (staleLimit : Word)
  /-- ENABLE_MODULE (R35). -/
  | enableModule (t : Time) (q m : Word)
  /-- DISABLE_MODULE (R36). -/
  | disableModule (t : Time) (q m : Word)
  /-- RESET_MODULE (R37). -/
  | resetModule (t : Time) (q m : Word)
  /-- LOAD_SLOTS (R49): `countLess1` is the count field. -/
  | loadSlots (t : Time) (q m : Word) (buffer : Addr) (countLess1 : Word)
  /-- LOAD_SLOTS_END (R50): reads of command in flight `serial` are answered; access j reads entry j, and its bytes are
  those of `buf` from 8j (log 19). -/
  | loadSlotsEnd (t : Time) (serial : Nat) (answers : AccessAnswers 8) (buf : Vector Byte 64)
  /-- HOLD_FRAME (R52). -/
  | holdFrame (t : Time) (q m : Word)
  /-- RELEASE_HOLD (R53). -/
  | releaseHold (t : Time) (q m ticket : Word)
  /-- DUMP_SLOTS (R54). -/
  | dumpSlots (t : Time) (q m : Word) (buffer : Addr)
  /-- DUMP_SLOTS_END (R55): writes of command in flight `serial` are answered; access j writes entry j, and `issued` of the
  entries are issued by then (log 14). -/
  | dumpSlotsEnd (t : Time) (serial : Nat) (answers : AccessAnswers 8) (issued : Nat)
  /-- LOAD_CALIBRATION (R60). -/
  | loadCalibration (t : Time) (q m : Word) (buffer : Addr)
  /-- LOAD_CALIBRATION_END (R61): reads of command in flight `serial` are answered; access j reads the 8 bytes of the buffer
  from 8j, which are those of `buf` (log 19). -/
  | loadCalibrationEnd (t : Time) (serial : Nat) (answers : AccessAnswers 12) (buf : Vector Byte 96)
  /-- SET_FIELD (R59). -/
  | setField (t : Time) (q fieldWidth zmin zmax : Word)
  /-- ZOOM_TO (R74). -/
  | zoomTo (t : Time) (q target rate : Word)
  /-- FORCE_MODULE (R84). -/
  | forceModule (t : Time) (q m : Word)
  /-- RELEASE_FORCE (R85). -/
  | releaseForce (t : Time) (q : Word)
  /-- SET_HANDOFF (R104). -/
  | setHandoff (t : Time) (q hysteresis fade relax prepare tolerance quality : Word)
  /-- FREEZE (R106). -/
  | freeze (t : Time) (q : Word)
  /-- THAW (R107). -/
  | thaw (t : Time) (q : Word)
  /-- CONFIGURE_VIEW (R126). -/
  | configureView (t : Time) (q v width height stride : Word) (start : Addr) (timeout : Word)
  /-- ENABLE_VIEW (R127). -/
  | enableView (t : Time) (q v : Word)
  /-- DISABLE_VIEW (R128). -/
  | disableView (t : Time) (q v : Word)
  /-- CLEAR_EVENTS (R165). -/
  | clearEvents (t : Time) (q mask : Word)
  /-- SET_ATTENTION (R166). -/
  | setAttention (t : Time) (q mask : Word)
  /-- RESET_ALL (R162). -/
  | resetAll (t : Time) (q : Word)
  /-- PORT_RESET (R19). -/
  | portReset (t : Time)
  /-- AGENT_WRITE_ANSWER (R169): memory answers the Agent's write number `write` into the control page. -/
  | agentWriteAnswer (t : Time) (write : Nat) (err : Bool)
deriving DecidableEq, Repr

end Sys2Proof
end

