-- ==== Sys2Proof/Machine/Operands.lean ====
section
/-! DEFINITION. Operand forms: bytes and little-endian fields (00_scope.md "Byte order", R170, R171), the roundings and
clamps of 00_scope.md, and small helpers on fixed-size vectors. -/

namespace Sys2Proof.Machine

/-! ### Fixed-size vectors -/

/-- Changes one element of a vector. -/
def upd {α : Type} {n : Nat} (v : Vector α n) (i : Fin n) (f : α → α) : Vector α n := v.set i (f v[i])

/-- Changes every element of a vector (through its list, so that the kernel can evaluate it). -/
def mapAll {α β : Type} {n : Nat} (f : α → β) (v : Vector α n) : Vector β n := ⟨⟨v.toList.map f⟩, by simp⟩

/-- The module numbers 0 to 3, in order. -/
def allModules : List ModuleId := [0, 1, 2, 3]

/-- The view numbers 0 and 1, in order. -/
def allViews : List ViewId := [0, 1]

/-- The entries of the view read table, in order. -/
def allEntries : List EntryId := [0, 1, 2, 3, 4, 5, 6, 7, 8, 9, 10, 11, 12, 13, 14, 15]

/-! ### Bytes and little-endian fields -/

/-- The value of little-endian bytes: the byte at the lower address is the less significant (00_scope.md). -/
def leNat : List Byte → Nat
  | [] => 0
  | b :: bs => b.toNat + 256 * leNat bs

/-- `v` as `n` little-endian bytes. -/
def leBytes : Nat → Nat → List Byte
  | 0, _ => []
  | n + 1, v => BitVec.ofNat 8 v :: leBytes n (v / 256)

/-- A signed value as `n` little-endian bytes, in two's complement at that width (R171). -/
def leSigned (n : Nat) (v : Int) : List Byte := leBytes n (v % (256 ^ n : Nat)).toNat

/-- `n` zero bytes. -/
def zeros (n : Nat) : List Byte := List.replicate n 0

/-- The little-endian field of `n` bytes at offset `off` of a record (R170). -/
def fieldAt (bytes : List Byte) (off n : Nat) : Nat := leNat ((bytes.drop off).take n)

/-- A field of `bits` bits read as a signed value (00_scope.md "Signed values"). -/
def signedField (bits v : Nat) : Int := if v < 2 ^ (bits - 1) then v else (v : Int) - (2 ^ bits : Nat)

/-- The signed little-endian field of `n` bytes at offset `off`. -/
def signedAt (bytes : List Byte) (off n : Nat) : Int := signedField (8 * n) (fieldAt bytes off n)

/-- The first `len` bytes of a payload. -/
def payloadBytes (p : Payload) (len : Nat) : List Byte := p.toList.take len

/-- A payload that begins with the bytes given, the rest zero. -/
def payloadOf (bytes : List Byte) : Payload := Vector.ofFn fun i => bytes.getD i 0

/-- The bytes of a write, none for a read. -/
def writeBytes (x : Transaction) : List Byte :=
  match x.access with
  | .read => []
  | .write d => payloadBytes d x.len

/-- Whether a transaction is a write. -/
def isWrite (x : Transaction) : Bool :=
  match x.access with
  | .read => false
  | .write _ => true

/-! ### Roundings and clamps (00_scope.md "Rounding") -/

/-- `num / den` rounded to the nearest integer, halves upward. -/
def roundHalfUp (num den : Nat) : Nat := (2 * num + den) / (2 * den)

/-- `num / den` rounded to the nearest integer, halves away from zero. -/
def roundHalfAway (num : Int) (den : Nat) : Int :=
  if 0 ≤ num then (roundHalfUp num.toNat den : Int) else -(roundHalfUp (-num).toNat den : Int)

/-- "Clamped to [a, b]": a value below a becomes a and a value above b becomes b. -/
def clamp (a b v : Nat) : Nat := if v < a then a else if b < v then b else v

/-- The clamp of signed values. -/
def clampInt (a b v : Int) : Int := if v < a then a else if b < v then b else v

/-- Rounded up to a multiple of 4096 (R2). -/
def pageUp (n : Nat) : Nat := (n + 4095) / 4096 * 4096

/-- The low 12 bits dropped (00_scope.md "Alignment"). -/
def pageDown (n : Nat) : Nat := n / 4096 * 4096

/-- A time later by `limit`. A sum that needs more than 64 bits is a free value (log 7). -/
def laterBy (serial : Nat) (t : Time) (limit : Nat) : Time :=
  if t.toNat + limit < 2 ^ 64 then BitVec.ofNat 64 (t.toNat + limit) else Config.deadlineBeyond serial t.toNat limit

/-- The low 32 bits of a time (R164, R177). -/
def timeLow (t : Time) : Word := BitVec.ofNat 32 t.toNat

/-- A number as a 32-bit field. -/
def word (n : Nat) : Word := BitVec.ofNat 32 n

/-- A truth value as a bit. -/
def bit (b : Bool) : Nat := if b then 1 else 0

/-- Bits from the least significant upward, as a number. -/
def bitsNat : List Bool → Nat
  | [] => 0
  | b :: bs => bit b + 2 * bitsNat bs

end Sys2Proof.Machine
end

