-- ==== Sys2Proof/Machine/Blocks.lean ====
section
/-! DEFINITION. What each block of the Z4 holds: the types that `State` is made of, with the reset value of each, as
INVENTORY.md lists them. -/

namespace Sys2Proof.Machine

/-! ### Memory Path (01_the_memory_path.md) -/

/-- A range of addresses: `start` to `start + size - 1`. -/
structure Extent where
  start : Nat
  size : Nat
deriving DecidableEq, Repr

/-- A C or V entry of the window table: the three states of R3. Start and size are present while configured. -/
inductive Window where
  | unconfigured
  | configured (e : Extent)
  | active (e : Extent)
deriving DecidableEq, Repr

/-- An answer to a transaction (1.1): OK with the bytes of a read (none for a write), or an error. -/
inductive Answer where
  | ok (bytes : List Byte)
  | error
deriving DecidableEq, Repr

/-- A place in a requester's answer queue (R17); `answer` is none until it is ready. -/
structure QueueEntry where
  requester : Byte
  place : Nat
  answer : Option Answer
deriving DecidableEq, Repr

/-- A transaction sent to memory through the memory-controller port and not yet answered; `bytes` is none for a
read. -/
structure Downstream where
  place : Nat
  address : Nat
  len : Nat
  bytes : Option (List Byte)
deriving DecidableEq, Repr

/-- An answer handed back to its requester (the model's output trace, log 15). -/
structure Returned where
  requester : Byte
  place : Nat
  answer : Answer
deriving DecidableEq, Repr

/-- The Memory Path: the window table (CP is fixed, R2), the answer queues of all requesters in acceptance order
(R17), what memory has yet to answer, and what waits at the port while acceptance stalls (R18). -/
structure MemoryPath where
  captureWindows : Vector Window 4
  viewWindows : Vector Window 2
  queue : List QueueEntry
  downstream : List Downstream
  waiting : List Transaction
  returned : List Returned
deriving DecidableEq, Repr

/-- The window table and the queues after a port reset (R2, R19). -/
def MemoryPath.reset : MemoryPath where
  captureWindows := Vector.replicate 4 .unconfigured
  viewWindows := Vector.replicate 2 .unconfigured
  queue := []
  downstream := []
  waiting := []
  returned := []

/-! ### Registration profiles (7.1) -/

/-- A bin of a profile: a luma sum and a pixel count, 64 bits each (R109). -/
structure Bin where
  sum : Nat
  count : Nat
deriving DecidableEq, Repr

/-- A profile rectangle with the generation it was set under (R96, R108). -/
structure Rect where
  generation : Word
  left : Int
  top : Int
  width : Nat
  height : Nat
deriving DecidableEq, Repr

/-- An accumulator, and the profile record it becomes at a close (R108, R110). -/
structure Profile where
  rect : Rect
  cols : Vector Bin 64
  rows : Vector Bin 64
  total : Bin
deriving DecidableEq, Repr

/-! ### Capture Tracker (02_frame_capture.md) -/

/-- The module record (R20); the window start is in the window entry. -/
structure ModuleRecord where
  configured : Bool
  enabled : Bool
  owner : Byte
  width : Nat
  height : Nat
  stride : Nat
  staleLimit : Nat
  lastTrailer : Word
deriving DecidableEq, Repr

/-- The module record after a port reset and RESET_ALL (R20). -/
def ModuleRecord.reset : ModuleRecord where
  configured := false
  enabled := false
  owner := 0
  width := 0
  height := 0
  stride := 0
  staleLimit := 0
  lastTrailer := 0

/-- The capture state with its open-frame context (R21): the slot being filled and the accumulator, if any. -/
inductive Capture where
  | disabled
  | idle
  | filling (slot : Nat) (acc : Option Profile)
  | discarding
deriving DecidableEq, Repr

/-- A Capture Tracker: record, capture state, and liveness: STALE is no deadline, LIVE one (R22). -/
structure Tracker where
  record : ModuleRecord
  capture : Capture
  deadline : Option Time
deriving DecidableEq, Repr

/-- R38. -/
def Tracker.reset : Tracker where
  record := .reset
  capture := .disabled
  deadline := none

/-- The fields of a well-formed trailer, as latched (R26, R173): focus already limited to 1023. -/
structure Trailer where
  frame : Word
  start : Time
  duration : Nat
  gain : Nat
  focus : Nat
  pipelineError : Bool
deriving DecidableEq, Repr

/-! ### Slot Store (03_frame_slots.md) -/

/-- The two output frame records of a view (R130). -/
inductive FrameName where
  | a
  | b
deriving DecidableEq, Repr

/-- The seven holders (R43). -/
inductive Holder where
  | frame (v : ViewId) (f : FrameName)
  | freeze
  | ticket (t : Fin 2)
deriving DecidableEq, Repr

/-- A holder's bit in a slot dump (R179). -/
def Holder.index : Holder → Fin 7
  | .frame ⟨0, _⟩ .a => 0
  | .frame ⟨0, _⟩ .b => 1
  | .frame ⟨_ + 1, _⟩ .a => 2
  | .frame ⟨_ + 1, _⟩ .b => 3
  | .freeze => 4
  | .ticket ⟨0, _⟩ => 5
  | .ticket ⟨_ + 1, _⟩ => 6

/-- A holder set: without order and without repeats (R43); one truth value per holder. -/
abbrev HolderSet := Vector Bool 7

/-- The frame record of a READY slot (R41). -/
structure FrameRecord where
  frame : Word
  start : Time
  duration : Nat
  gain : Nat
  focus : Nat
  midpoint : Time
  closeOrder : Word
  profile : Option Profile
deriving DecidableEq, Repr

/-- The state of a loaded slot; a frame record is present only while READY (R39, R40). -/
inductive SlotState where
  | free
  | filling
  | ready (r : FrameRecord)
deriving DecidableEq, Repr

/-- A loaded entry of the slot table (R39). -/
structure Slot where
  base : Nat
  size : Nat
  state : SlotState
  holders : HolderSet
deriving DecidableEq, Repr

/-- A module's share of the Slot Store: its slot list (the loaded entries 0 to n - 1), its ready list, oldest first, and
its two hold tickets (R39, R42, R52). -/
structure ModuleSlots where
  slots : List Slot
  ready : List Nat
  tickets : Vector (Option Nat) 2
deriving DecidableEq, Repr

/-- An emptied module: nothing loaded (R39), every ticket unused (R48). -/
def ModuleSlots.empty : ModuleSlots where
  slots := []
  ready := []
  tickets := Vector.replicate 2 none

/-- The Slot Store: every module's share and the close order counter of the whole store (R41). -/
structure SlotStore where
  mods : Vector ModuleSlots 4
  closeOrder : Word
deriving DecidableEq, Repr

/-- R39. -/
def SlotStore.reset : SlotStore where
  mods := Vector.replicate 4 .empty
  closeOrder := 0

/-! ### Hand-off Controller (chapters 4 to 6) -/

/-- The field parameters (R56). -/
structure Field where
  width : Nat
  zmin : Nat
  zmax : Nat
deriving DecidableEq, Repr

/-- An entry of a parallax table (R58). -/
structure ParallaxEntry where
  focus : Nat
  dx : Int
  dy : Int
deriving DecidableEq, Repr

/-- A calibration record (R57). -/
structure Calibration where
  scale : Nat
  cx : Int
  cy : Int
  lo : Nat
  hi : Nat
  parallax : List ParallaxEntry
deriving DecidableEq, Repr

/-- The reset values of R57. -/
def Calibration.reset : Calibration where
  scale := 65536
  cx := 0
  cy := 0
  lo := 16384
  hi := 4194304
  parallax := []

/-- A zoom request: target and rate (R73). -/
structure ZoomRequest where
  target : Nat
  rate : Nat
deriving DecidableEq, Repr

/-- A force change (R81). -/
inductive ForceChange where
  | force (m : ModuleId)
  | release
deriving DecidableEq, Repr

/-- The hand-off state with S and I (R88, R91): S is none only in STARVED, I is present in PREPARING and FADING. -/
inductive Phase where
  | starved (s : Option ModuleId)
  | steady (s : ModuleId)
  | preparing (s i : ModuleId)
  | fading (s i : ModuleId)
deriving DecidableEq, Repr

/-- The serving module S. -/
def Phase.serving : Phase → Option ModuleId
  | .starved s => s
  | .steady s => some s
  | .preparing s _ => some s
  | .fading s _ => some s

/-- The incoming module I. -/
def Phase.incoming : Phase → Option ModuleId
  | .starved _ => none
  | .steady _ => none
  | .preparing _ i => some i
  | .fading _ i => some i

/-- The number of the hand-off state in a snapshot (R177). -/
def Phase.number : Phase → Nat
  | .starved _ => 0
  | .steady _ => 1
  | .preparing _ _ => 2
  | .fading _ _ => 3

/-- Which way a fade is running (R88). -/
inductive Direction where
  | forward
  | returning
deriving DecidableEq, Repr

/-- The six hand-off parameters (R104). -/
structure HandoffParams where
  hysteresis : Nat
  fade : Nat
  relax : Nat
  prepare : Nat
  tolerance : Nat
  quality : Nat
deriving DecidableEq, Repr

/-- What the Controller keeps for each module: calibration in use and pending (R57), gain, relaxation and refinement
(R89), profile rectangle (R96), bar (R82) and reset mark (R90). -/
structure ModuleComp where
  calibration : Calibration
  pendingCalibration : Option Calibration
  gain : Nat
  relaxStart : Nat
  relaxStep : Nat
  rx : Int
  ry : Int
  rect : Option Rect
  barred : Bool
  resetMark : Bool
deriving DecidableEq, Repr

/-- R57, R82, R88, R89. -/
def ModuleComp.reset : ModuleComp where
  calibration := .reset
  pendingCalibration := none
  gain := 16384
  relaxStart := 16384
  relaxStep := 0
  rx := 0
  ry := 0
  rect := none
  barred := false
  resetMark := false

/-- What a publication carries of one module: gain, refinement and calibration record (R88). -/
structure PublishedModule where
  gain : Nat
  rx : Int
  ry : Int
  calibration : Calibration
deriving DecidableEq, Repr

/-- The composition state that is published at stage 5 and latched by each output frame (R88). It holds every
module's values; of these the output frame uses those of S and I. -/
structure Published where
  phase : Phase
  alpha : Nat
  direction : Direction
  unrefined : Bool
  frozen : Bool
  zq : Nat
  field : Field
  mods : Vector PublishedModule 4
deriving DecidableEq, Repr

/-- The Hand-off Controller. -/
structure Controller where
  field : Field
  pendingField : Option Field
  zq : Nat
  zt : Nat
  rate : Nat
  rampOpen : Bool
  pendingZoom : Option ZoomRequest
  forced : Option ModuleId
  pendingForce : Option ForceChange
  candidate : Option ModuleId
  phase : Phase
  direction : Direction
  k : Nat
  fadeInUse : Nat
  alpha : Nat
  unrefined : Bool
  generation : Word
  prepareCounter : Nat
  frozen : Bool
  params : HandoffParams
  pendingParams : Option HandoffParams
  mods : Vector ModuleComp 4
  published : Published
deriving DecidableEq, Repr

/-- The reset values of R56, R73, R80, R81, R88, R89 and R104; the published state is the publication of them. -/
def Controller.reset : Controller where
  field := { width := 4096, zmin := 32768, zmax := 1966080 }
  pendingField := none
  zq := 65536
  zt := 65536
  rate := 65536
  rampOpen := false
  pendingZoom := none
  forced := none
  pendingForce := none
  candidate := none
  phase := .starved none
  direction := .forward
  k := 0
  fadeInUse := 8
  alpha := 0
  unrefined := false
  generation := 0
  prepareCounter := 0
  frozen := false
  params := { hysteresis := 6554, fade := 8, relax := 30, prepare := 6, tolerance := 8000, quality := 480 }
  pendingParams := none
  mods := Vector.replicate 4 .reset
  published :=
    { phase := .starved none, alpha := 0, direction := .forward, unrefined := false, frozen := false, zq := 65536
      field := { width := 4096, zmin := 32768, zmax := 1966080 }
      mods := Vector.replicate 4 { gain := 16384, rx := 0, ry := 0, calibration := .reset } }

/-! ### Registration Unit (07_registration.md) -/

/-- The registration context of a computation in flight (R111). -/
structure RegContext where
  serving : ModuleId
  incoming : ModuleId
  generation : Word
  quality : Nat
  servingProfile : Profile
  incomingProfile : Profile
  servingFrame : Word
  incomingFrame : Word
deriving DecidableEq, Repr

/-- A successful axis: best shift, fraction in 1/256 bin, edge mark, norm of the best shift (R117, R118). -/
structure AxisFit where
  shift : Int
  frac : Int
  edge : Bool
  norm : Nat
deriving DecidableEq, Repr

/-- Why an axis failed (R117); a "quality" failure keeps norm(best) (R120). -/
inductive AxisFailure where
  | tooFewBins
  | quality (norm : Nat)
deriving DecidableEq, Repr

/-- The outcome of a computation: success of both axes with the refinement, or the first failing axis, horizontal
before vertical (R120). -/
inductive RegOutcome where
  | success (h v : AxisFit) (rx ry : Int)
  | failHorizontal (f : AxisFailure)
  | failVertical (h : AxisFit) (f : AxisFailure)
deriving DecidableEq, Repr

/-- The result record (R120). -/
structure RegResult where
  generation : Word
  serving : ModuleId
  incoming : ModuleId
  servingFrame : Word
  incomingFrame : Word
  gRel : Nat
  outcome : RegOutcome
deriving DecidableEq, Repr

/-- The Registration Unit: IDLE is no context, COMPUTING one; and the last result (R111). -/
structure Registration where
  context : Option RegContext
  last : Option RegResult
deriving DecidableEq, Repr

/-- R111. -/
def Registration.reset : Registration where
  context := none
  last := none

/-! ### View Composer (chapters 8 and 9) -/

/-- A part of an output frame (R134), with the inputs of the geometry that R64 latches for its module. -/
structure Part where
  module : ModuleId
  slot : Option Nat
  base : Nat
  frame : Word
  midpoint : Time
  focus : Nat
  gain : Nat
  ox : Int
  oy : Int
  step : Nat
  stepClamped : Bool
  coverageFailed : Bool
  cx : Int
  cy : Int
  width : Nat
  height : Nat
  stride : Nat
deriving DecidableEq, Repr

/-- The header flags of an output frame (R137), in the order of their bits (R178). -/
structure HeaderFlags where
  coverage : Bool
  noFrame : Bool
  stepClamped : Bool
  unrefined : Bool
  frozen : Bool
  starved : Bool
  returning : Bool
deriving DecidableEq, Repr

/-- An output frame is OPEN or DRAINING (R130). -/
inductive FrameStatus where
  | opened
  | draining
deriving DecidableEq, Repr

/-- An output frame (R130): everything but `status` is fixed at its open. -/
structure OutputFrame where
  status : FrameStatus
  number : Word
  latched : Published
  serving : Option Part
  second : Option Part
  flags : HeaderFlags
deriving DecidableEq, Repr

/-- A view record with its two output frame records (R125, R130). -/
structure View where
  configured : Bool
  enabled : Bool
  width : Nat
  height : Nat
  stride : Nat
  timeout : Nat
  counter : Word
  openedSinceEnable : Bool
  unopenedReported : Bool
  frameA : Option OutputFrame
  frameB : Option OutputFrame
deriving DecidableEq, Repr

/-- R125, R130. -/
def View.reset : View where
  configured := false
  enabled := false
  width := 0
  height := 0
  stride := 0
  timeout := 0
  counter := 0
  openedSinceEnable := false
  unopenedReported := false
  frameA := none
  frameB := none

/-- The kinds of view reads (R129). An EMPTY read is answered in the event of its acceptance (R146). -/
inductive ReadKind where
  | header
  | pixel
  | empty
deriving DecidableEq, Repr

/-- The output frame a read belongs to (R129): a record of its view, or the one that the header read at answer place
`place` will open. -/
inductive FrameRef where
  | record (f : FrameName)
  | awaiting (place : Nat)
deriving DecidableEq, Repr

/-- The states of an entry in use (R145). -/
inductive ReadState where
  | waitingOpen
  | fetching
  | complete
deriving DecidableEq, Repr

/-- A source fetch (R149): `len` pixel words of `row` of the serving part's module, or the second part's, from column
`col`, at `address`. -/
structure FetchSpec where
  second : Bool
  module : ModuleId
  row : Nat
  col : Nat
  words : Nat
  address : Nat
deriving DecidableEq, Repr

/-- A fetch issued and not yet answered, with its identity at the port and its deadline (R149). -/
structure Fetch where
  id : Nat
  spec : FetchSpec
  deadline : Time
deriving DecidableEq, Repr

/-- Source pixel words received: of a part's module, from a row and column on (R145, R150). -/
structure SourceRun where
  second : Bool
  row : Nat
  col : Nat
  words : List Word
deriving DecidableEq, Repr

/-- An entry of the view read table in use (R145). The fetches outstanding and the earliest deadline are computed from
`outstanding`. -/
structure ReadEntry where
  requester : Byte
  place : Nat
  view : ViewId
  kind : ReadKind
  offset : Nat
  len : Nat
  frame : FrameRef
  state : ReadState
  outstanding : List Fetch
  toIssue : List FetchSpec
  source : List SourceRun
deriving DecidableEq, Repr

/-- A place of the view read table: its use tag, and the read it holds (R145). -/
structure TableEntry where
  tag : Byte
  read : Option ReadEntry
deriving DecidableEq, Repr

/-- A withdrawn fetch still issued at memory (R152, R155). -/
structure Withdrawn where
  entry : EntryId
  tag : Byte
  id : Nat
deriving DecidableEq, Repr

/-- The View Composer. -/
structure Composer where
  views : Vector View 2
  table : Vector TableEntry 16
  withdrawn : List Withdrawn
deriving DecidableEq, Repr

/-- R125, R130, R145. -/
def Composer.reset : Composer where
  views := Vector.replicate 2 .reset
  table := Vector.replicate 16 { tag := 0, read := none }
  withdrawn := []

/-! ### Command Agent (10_the_control_page.md) -/

/-- What caused an advance: the pacing view and the number of the output frame that opens (R86). -/
structure Advance where
  view : ViewId
  frame : Word
deriving DecidableEq, Repr

/-- The detail of an event kind: the five items of R164, zero where its table gives nothing. `advance` is the pacing view
and the output frame number of R86, in the one detail of an advance whose items have no place for them: that of
ZOOM_CLAMPED (log 31). -/
structure EventDetail where
  subject : Nat
  second : Nat
  frame : Word
  time : Word
  reason : Nat
  advance : Option Advance := none
deriving DecidableEq, Repr

/-- The zero detail. -/
def EventDetail.zero : EventDetail where
  subject := 0
  second := 0
  frame := 0
  time := 0
  reason := 0

/-- What the Agent keeps for an event kind (R163). -/
structure EventState where
  flag : Bool
  count : Nat
  detail : EventDetail
deriving DecidableEq, Repr

/-- A kind that is clear: flag clear, count 0, detail zero (R162, R165). -/
def EventState.clear : EventState where
  flag := false
  count := 0
  detail := .zero

/-- The 16 event kinds (R164). -/
inductive EventKind where
  | handoffDone
  | handoffAbandoned
  | handoffUnrefined
  | moduleStale
  | moduleLive
  | starved
  | frameDiscarded
  | trailerBad
  | writeRefused
  | spanRefused
  | fetchError
  | viewUnopened
  | coverage
  | rampDone
  | commandDone
  | zoomClamped
deriving DecidableEq, Repr

/-- The number of an event kind (R164). -/
def EventKind.index : EventKind → Fin 16
  | .handoffDone => 0
  | .handoffAbandoned => 1
  | .handoffUnrefined => 2
  | .moduleStale => 3
  | .moduleLive => 4
  | .starved => 5
  | .frameDiscarded => 6
  | .trailerBad => 7
  | .writeRefused => 8
  | .spanRefused => 9
  | .fetchError => 10
  | .viewUnopened => 11
  | .coverage => 12
  | .rampDone => 13
  | .commandDone => 14
  | .zoomClamped => 15

/-- The 13 outcome codes (R160). -/
inductive OutcomeCode where
  | done
  | busy
  | unknownCommand
  | badArgument
  | notConfigured
  | inUse
  | notEnabled
  | overlap
  | outOfCarve
  | fetchFailed
  | noFrame
  | holdLimit
  | badTable
deriving DecidableEq, Repr

/-- The number of an outcome code (R175). -/
def OutcomeCode.number : OutcomeCode → Nat
  | .done => 0
  | .busy => 1
  | .unknownCommand => 2
  | .badArgument => 3
  | .notConfigured => 4
  | .inUse => 5
  | .notEnabled => 6
  | .overlap => 7
  | .outOfCarve => 8
  | .fetchFailed => 9
  | .noFrame => 10
  | .holdLimit => 11
  | .badTable => 12

/-- The three commands that take time, with their arguments as triggered (R161); a dump carries the entries of its
snapshot (R54). -/
inductive InFlightOp where
  | loadSlots (m : ModuleId) (buffer count : Nat)
  | dumpSlots (m : ModuleId) (buffer : Nat) (entries : List (List Byte))
  | loadCalibration (m : ModuleId) (buffer : Nat)
deriving DecidableEq, Repr

/-- The number of a command kind in flight (R174). -/
def InFlightOp.kind : InFlightOp → Nat
  | .loadSlots _ _ _ => 5
  | .dumpSlots _ _ _ => 8
  | .loadCalibration _ _ => 9

/-- How many memory accesses a command in flight makes (log 19): a read for each entry of a slot buffer, a write for each
entry of a dump, a read for each 8 bytes of a calibration buffer. -/
def InFlightOp.accesses : InFlightOp → Nat
  | .loadSlots _ _ count => count
  | .dumpSlots _ _ entries => entries.length
  | .loadCalibration _ _ => 12

/-- How many of them are issued at the trigger: every read, and no write (log 19). -/
def InFlightOp.issuedAtStart : InFlightOp → Nat
  | .loadSlots _ _ count => count
  | .dumpSlots _ _ _ => 0
  | .loadCalibration _ _ => 12

/-- The progress of a command in flight through its memory accesses (R161): how many are issued, in their order, and for
each one memory's answer so far, none or the bytes it brought (none of them for a write). -/
structure Progress where
  issued : Nat
  answers : List (Option (List Byte))
deriving DecidableEq, Repr

/-- The progress of a command at its trigger. -/
def InFlightOp.progress (op : InFlightOp) : Progress where
  issued := op.issuedAtStart
  answers := List.replicate op.accesses none

/-- The in-flight record (R161); `serial` names its accesses at the port (log 3). -/
structure InFlight where
  serial : Nat
  seq : Word
  op : InFlightOp
  progress : Progress
deriving DecidableEq, Repr

/-- A write the Z4 issued through its own port, with memory's answer so far: none, or whether it was an error. -/
structure OwnWrite where
  address : Nat
  bytes : List Byte
  answered : Option Bool
deriving DecidableEq, Repr

/-- The Command Agent, with the attention line it drives (R166) and the writes it has issued into the control page
(R156) and for slot dumps (R55). -/
structure Agent where
  staging : Vector Byte 64
  inFlight : Option InFlight
  events : Vector EventState 16
  mask : BitVec 16
  attention : Bool
  snapshotCount : Word
  writes : List OwnWrite
  dumpWrites : List OwnWrite
deriving DecidableEq, Repr

/-- R157, R161, R162, R163, R166, R167; nothing written yet. -/
def Agent.reset : Agent where
  staging := Vector.replicate 64 0
  inFlight := none
  events := Vector.replicate 16 .clear
  mask := 0
  attention := false
  snapshotCount := 0
  writes := []
  dumpWrites := []

end Sys2Proof.Machine
end

