-- ==== Sys2Proof/Machine/Records.lean ====
section
/-! DEFINITION. The records the Z4 writes, byte for byte (spec/11_record_layouts.md, R171 to R179). Every byte that no
field covers is zero. -/

namespace Sys2Proof.Machine

/-- A module field that stands for "none" holds 255 (R171). -/
def moduleByte (m : Option ModuleId) : List Byte := leBytes 1 (m.elim 255 (·.val))

/-- A slot field that stands for "none" holds 255 (R171). -/
def slotByte (i : Option Nat) : List Byte := leBytes 1 (i.getD 255)

/-! ### Status record (R175) -/

/-- The status record: 64 bytes. -/
def statusBytes (seq : Word) (kind : Nat) (o : OutcomeCode) (d0 d1 d2 : Nat) : List Byte :=
  leBytes 4 seq.toNat ++ leBytes 2 kind ++ leBytes 2 o.number ++ leBytes 4 d0 ++ leBytes 4 d1 ++ leBytes 4 d2 ++ zeros 44

/-! ### Event summary entry (R176) -/

/-- An event summary entry: 16 bytes. -/
def eventBytes (e : EventState) : List Byte :=
  leBytes 1 (bit e.flag) ++ leBytes 1 e.count ++ leBytes 1 e.detail.subject ++ leBytes 1 e.detail.second
    ++ leBytes 4 e.detail.frame.toNat ++ leBytes 4 e.detail.time.toNat ++ leBytes 1 e.detail.reason ++ zeros 3

/-! ### State snapshot (R167, R177) -/

/-- The number of a capture state (R177). -/
def Capture.number : Capture → Nat
  | .disabled => 0
  | .idle => 1
  | .filling _ _ => 2
  | .discarding => 3

/-- Byte 28: ramp open, zoom request, force change, field copy and hand-off copy pending, frozen, unrefined,
RETURNING. -/
def snapshotFlags (c : Controller) : Nat :=
  bitsNat [c.rampOpen, c.pendingZoom.isSome, c.pendingForce.isSome, c.pendingField.isSome, c.pendingParams.isSome,
    c.frozen, c.unrefined, c.direction == .returning]

/-- Byte 29: bit m, a pending calibration for module m. -/
def pendingCalibrations (c : Controller) : Nat :=
  bitsNat (allModules.map fun m => c.mods[m].pendingCalibration.isSome)

/-- The 12 bytes of module m: gain, state byte, refinement; zero for a module the integration does not provide. -/
def snapshotModule (provided : Bool) (t : Tracker) (c : ModuleComp) : List Byte :=
  if provided then
    leBytes 2 c.gain
      ++ leBytes 1 (t.capture.number + 4 * bitsNat [t.record.enabled, t.deadline.isSome, c.barred])
      ++ zeros 1 ++ leSigned 4 c.rx ++ leSigned 4 c.ry
  else zeros 12

/-- A norm in the snapshot: limited to 65535 (R171). -/
def normBytes (n : Nat) : List Byte := leBytes 2 (min n 65535)

/-- The fit of the horizontal axis that a result keeps (R120). -/
def RegOutcome.horizontal : RegOutcome → Option AxisFit
  | .success h _ _ _ => some h
  | .failHorizontal _ => none
  | .failVertical h _ => some h

/-- The fit of the vertical axis that a result keeps (R120). -/
def RegOutcome.vertical : RegOutcome → Option AxisFit
  | .success _ v _ _ => some v
  | .failHorizontal _ => none
  | .failVertical _ _ => none

/-- Why the computation failed, if it did. -/
def RegOutcome.failure : RegOutcome → Option AxisFailure
  | .success _ _ _ _ => none
  | .failHorizontal f => some f
  | .failVertical _ f => some f

/-- The norm a failure keeps: the failing axis's norm(best) where its reason is "quality" (R120). -/
def AxisFailure.norm : AxisFailure → Nat
  | .tooFewBins => 0
  | .quality n => n

/-- Whether the failing axis is the vertical one. -/
def RegOutcome.failsVertical : RegOutcome → Bool
  | .failVertical _ _ => true
  | _ => false

/-- norm(best) of the two axes: of an axis that succeeded, or of the failing axis where its reason is "quality", else
zero (R120, R177). -/
def RegOutcome.norms : RegOutcome → Nat × Nat
  | .success h v _ _ => (h.norm, v.norm)
  | .failHorizontal f => (f.norm, 0)
  | .failVertical h f => (h.norm, f.norm)

/-- The refinement that a success carries; zero where R120 leaves it absent. -/
def RegOutcome.refinement : RegOutcome → Int × Int
  | .success _ _ rx ry => (rx, ry)
  | _ => (0, 0)

/-- Byte 38: COMPUTING, last result, failure reason, failing axis, edge marks (R177). -/
def registrationByte (r : Registration) : Nat :=
  bit r.context.isSome
    + match r.last with
      | none => 0
      | some l =>
        (if l.outcome.failure.isNone then 2 else 4)
          + 8 * bit (match l.outcome.failure with
              | some (.quality _) => true
              | _ => false)
          + 16 * bit l.outcome.failsVertical
          + 32 * bit (l.outcome.horizontal.elim false (·.edge))
          + 64 * bit (l.outcome.vertical.elim false (·.edge))

/-- Bytes 92 to 99: the context's generation and frame numbers, zero while IDLE. -/
def snapshotContext (c : Option RegContext) : List Byte :=
  match c with
  | none => zeros 8
  | some c => leBytes 4 c.generation.toNat ++ leBytes 2 c.servingFrame.toNat ++ leBytes 2 c.incomingFrame.toNat

/-- Bytes 100 to 127: the result's generation, frame numbers, gain, shifts, fractions, norms and refinement; zero
while the last result is absent. -/
def snapshotResult (r : Option RegResult) : List Byte :=
  match r with
  | none => zeros 28
  | some r =>
    leBytes 4 r.generation.toNat ++ leBytes 2 r.servingFrame.toNat ++ leBytes 2 r.incomingFrame.toNat ++ leBytes 2 r.gRel
      ++ leSigned 1 (r.outcome.horizontal.elim 0 (·.shift)) ++ leSigned 1 (r.outcome.vertical.elim 0 (·.shift))
      ++ leSigned 2 (r.outcome.horizontal.elim 0 (·.frac)) ++ leSigned 2 (r.outcome.vertical.elim 0 (·.frac))
      ++ normBytes r.outcome.norms.1 ++ normBytes r.outcome.norms.2
      ++ leSigned 4 r.outcome.refinement.1 ++ leSigned 4 r.outcome.refinement.2

/-- What caused a snapshot (R167): an advance of the pacing view by an output frame, a command, or a start record. -/
inductive SnapshotCause where
  | advance (v : ViewId) (frame : Word)
  | command (kind : Nat)
  | start
deriving DecidableEq, Repr

/-- The number of a cause (R177). -/
def SnapshotCause.number : SnapshotCause → Nat
  | .advance _ _ => 0
  | .command kind => kind
  | .start => 255

/-- The pacing view of the advance; a free value where no advance caused the snapshot (log 9). -/
def SnapshotCause.view (write : Nat) : SnapshotCause → Byte
  | .advance v _ => BitVec.ofNat 8 v.val
  | .command _ => Config.snapshotView write
  | .start => Config.snapshotView write

/-- The output frame number of the advance; a free value where no advance caused the snapshot (log 9). -/
def SnapshotCause.frame (write : Nat) : SnapshotCause → Word
  | .advance _ n => n
  | .command _ => Config.snapshotFrame write
  | .start => Config.snapshotFrame write

/-- Byte 39: the last result's S in bits 0 to 3 and I in bits 4 to 7. While the last result is absent, each of the two 4-bit
module fields holds 15 for none, as R171 has it; that R177's "result fields" that are then zero are bytes 100 to 127 alone
is the model's choice (log 32). -/
def resultModules (r : Option RegResult) : Nat := r.elim (15 + 16 * 15) fun l => l.serving.val + 16 * l.incoming.val

/-- The state snapshot: 128 bytes (R177). `write` numbers the Agent's writes, for the free values alone. -/
def snapshotBytes (cfg : Config) (count : Word) (cause : SnapshotCause) (write : Nat) (t : Time)
    (trackers : Vector Tracker 4) (c : Controller) (r : Registration) : List Byte :=
  leBytes 4 count.toNat ++ leBytes 1 cause.number ++ [cause.view write] ++ leBytes 2 c.alpha
    ++ leBytes 4 (cause.frame write).toNat ++ leBytes 4 (timeLow t).toNat
    ++ leBytes 4 c.zq ++ leBytes 4 c.zt ++ leBytes 4 c.rate
    ++ leBytes 1 (snapshotFlags c) ++ leBytes 1 (pendingCalibrations c) ++ leBytes 1 c.phase.number
    ++ moduleByte c.phase.serving ++ moduleByte c.phase.incoming ++ moduleByte c.candidate ++ moduleByte c.forced
    ++ leBytes 1 c.k ++ leBytes 1 c.fadeInUse ++ leBytes 1 c.prepareCounter
    ++ leBytes 1 (registrationByte r)
    ++ leBytes 1 (resultModules r.last)
    ++ leBytes 4 c.generation.toNat
    ++ (allModules.map fun m => snapshotModule (decide (m.val < cfg.modules.toNat)) trackers[m] c.mods[m]).flatten
    ++ snapshotContext r.context ++ snapshotResult r.last

/-! ### View header (R136, R178) -/

/-- The bits of the header flags. -/
def HeaderFlags.toNat (f : HeaderFlags) : Nat :=
  bitsNat [f.coverage, f.noFrame, f.stepClamped, f.unrefined, f.frozen, f.starved, f.returning]

/-- An offset as a signed 32-bit field. Outside that range the manual gives no field value: a free value (log 8). -/
def offsetBytes (o : Int) : List Byte :=
  if -2147483648 ≤ o ∧ o ≤ 2147483647 then leSigned 4 o else leBytes 4 (Config.headerOffsetBeyond o).toNat

/-- A part of the header: 24 bytes. A part that is absent, or whose slot is none, is zero with the slot shown as none
(R136). -/
def partBytes (p : Option Part) : List Byte :=
  match p with
  | none => leBytes 1 255 ++ zeros 23
  | some p =>
    match p.slot with
    | none => leBytes 1 255 ++ zeros 23
    | some i =>
      leBytes 1 i ++ zeros 1 ++ leBytes 2 p.gain ++ leBytes 4 p.frame.toNat ++ leBytes 8 p.midpoint.toNat
        ++ offsetBytes p.ox ++ offsetBytes p.oy

/-- The header of an output frame: 64 bytes. -/
def headerBytes (f : OutputFrame) : List Byte :=
  leBytes 4 f.number.toNat ++ leBytes 4 f.latched.zq
    ++ moduleByte (f.serving.map (·.module)) ++ moduleByte (f.second.map (·.module))
    ++ leBytes 2 f.latched.alpha ++ leBytes 2 f.flags.toNat ++ zeros 2
    ++ partBytes f.serving ++ partBytes f.second

/-- Bytes `off` to `off + len - 1` of the header page: zero at header offset 64 and above (R138). -/
def headerPage (f : OutputFrame) (off len : Nat) : List Byte :=
  (List.range len).map fun i => (headerBytes f).getD (off + i) 0

/-! ### Slot dump (R54, R179) -/

/-- The holders of a slot as bits 0 to 6. -/
def holderBits (h : HolderSet) : Nat := bitsNat h.toList

/-- A slot dump entry: 32 bytes; the frame fields are zero unless the slot is READY. -/
def dumpEntry (s : Slot) : List Byte :=
  let (n, profile, focus, order, frame, midpoint) : Nat × Nat × Nat × Nat × Nat × Nat :=
    match s.state with
    | .free => (0, 0, 0, 0, 0, 0)
    | .filling => (1, 0, 0, 0, 0, 0)
    | .ready r => (2, bit r.profile.isSome, r.focus, r.closeOrder.toNat, r.frame.toNat, r.midpoint.toNat)
  leBytes 8 s.base ++ leBytes 1 n ++ leBytes 1 (holderBits s.holders) ++ leBytes 1 profile ++ zeros 1 ++ leBytes 2 focus
    ++ zeros 2 ++ leBytes 4 order ++ leBytes 4 frame ++ leBytes 8 midpoint

/-! ### Places in the control page (R156) -/

/-- Offset of the status record. -/
def statusOffset : Nat := 64

/-- Offset of the event summary; entry n lies at 128 + 16n. -/
def eventOffset : Nat := 128

/-- Offset of the state snapshot. -/
def snapshotOffset : Nat := 512

/-- The writes of a start record in their order: the whole event summary, the snapshot of the reset state with count 0
and cause "start", and the status record with sequence 0 and outcome DONE (R168). -/
def startRecord (cfg : Config) (write : Nat) (t : Time) (trackers : Vector Tracker 4) (c : Controller) (r : Registration)
    (kind detail : Nat) : List OwnWrite :=
  [{ address := cfg.controlPage + eventOffset, bytes := zeros 256, answered := none },
   { address := cfg.controlPage + snapshotOffset
     bytes := snapshotBytes cfg 0 .start (write + 1) t trackers c r
     answered := none },
   { address := cfg.controlPage + statusOffset, bytes := statusBytes 0 kind .done detail 0 0, answered := none }]

end Sys2Proof.Machine
end

