-- ==== Sys2Proof/Machine/State.lean ====
section
/-! DEFINITION. The state of the block as plain data, its reset value, and the reasons a step can stop. -/

namespace Sys2Proof.Machine

/-- The state of the Z4. -/
structure State where
  /-- The commands that are waiting, first in, first out. The model's own: it stands for the outside. -/
  pending : List Instr
  /-- The integration parameters; no command changes them. -/
  cfg : Config
  /-- The time count as read at the last event (log 1). -/
  time : Time
  /-- The model's own counter, which names answer places, fetches and commands in flight (log 3). -/
  serial : Nat
  path : MemoryPath
  trackers : Vector Tracker 4
  store : SlotStore
  ctl : Controller
  reg : Registration
  comp : Composer
  agent : Agent
deriving DecidableEq, Repr

/-- Why a step faults: no event stops the block, so there is no fault (INVENTORY.md, "Faults"). -/
inductive Fault where
deriving DecidableEq, Repr

/-- Why a command is refused by the model. No meaning answers with a refusal. -/
inductive Refusal where
  /-- Raised by `exec` for a command that has no meaning yet, by its mnemonic; none is left. Safe: the model stops
  where the block goes on. -/
  | notModelled (mnemonic : String)
deriving DecidableEq, Repr

/-- The block as it leaves a port reset (R2, R38, R39, R88, R111, R125, R145, R162), with the start record just issued
(R168; log 15). The integration is the one of log 2. -/
def State.reset : State where
  pending := []
  cfg := .resetIntegration
  time := 0
  serial := 0
  path := .reset
  trackers := Vector.replicate 4 .reset
  store := .reset
  ctl := .reset
  reg := .reset
  comp := .reset
  agent :=
    { Agent.reset with
      writes := startRecord .resetIntegration 0 0 (Vector.replicate 4 .reset) .reset .reset 0 0 }

end Sys2Proof.Machine
end

