-- ==== Sys2Proof/Machine/Flags.lean ====
section
/-! DEFINITION. Flag computations: the event flags with their counts and details, the attention line (R163 to R166), the
header flags of an output frame (R137), and the clamp marks of SET_HANDOFF and ZOOM_TO (R74, R104). -/

namespace Sys2Proof.Machine

/-- The numbers of the event kinds, in order. -/
def allKinds : List (Fin 16) := [0, 1, 2, 3, 4, 5, 6, 7, 8, 9, 10, 11, 12, 13, 14, 15]

/-- What a block hands to the Agent when it raises an event: the kind and the items of its detail but for the time
(R86, R164). -/
structure Raise where
  kind : EventKind
  subject : Nat
  second : Nat
  frame : Word
  reason : Nat
  advance : Option Advance := none
deriving DecidableEq, Repr

/-- The detail of a raise at time `t`: its time is the low 32 bits of the time count (R164). -/
def Raise.detail (r : Raise) (t : Time) : EventDetail where
  subject := r.subject
  second := r.second
  frame := r.frame
  time := timeLow t
  reason := r.reason
  advance := r.advance

/-- A kind after a raise: flag set, count increased by 1 and held at 255, detail replaced (R163). -/
def EventState.raised (e : EventState) (d : EventDetail) : EventState where
  flag := true
  count := min (e.count + 1) 255
  detail := d

/-- The attention line: high exactly when some kind is flagged and enabled in the mask (R166). -/
def attentionOf (events : Vector EventState 16) (mask : BitVec 16) : Bool :=
  allKinds.any fun n => events[n].flag && mask.getLsbD n.val

/-- The mask of the flagged kinds among those named (R165). -/
def flaggedMask (events : Vector EventState 16) (mask : BitVec 16) : Nat :=
  bitsNat (allKinds.map fun n => events[n].flag && mask.getLsbD n.val)

/-- Whether a clamp changed a value. -/
def clamped (before after : Nat) : Bool := before != after

/-! ### Reasons, numbered in the order of the table of R164 (R176) -/

/-- HANDOFF_DONE: cut, faded, early. -/
def reasonCut : Nat := 0
def reasonFaded : Nat := 1
def reasonEarly : Nat := 2

/-- HANDOFF_ABANDONED: stale, no frame, returned. -/
def reasonStale : Nat := 0
def reasonNoFrame : Nat := 1
def reasonReturned : Nat := 2

/-- TRAILER_BAD: idle, malformed, invalid, suspect. -/
def reasonIdle : Nat := 0
def reasonMalformed : Nat := 1
def reasonInvalid : Nat := 2
def reasonSuspect : Nat := 3

/-- WRITE_REFUSED: owner, view, guard. -/
def reasonOwner : Nat := 0
def reasonView : Nat := 1
def reasonGuard : Nat := 2

/-- FETCH_ERROR: error, timeout. -/
def reasonError : Nat := 0
def reasonTimeout : Nat := 1

/-- ZOOM_CLAMPED: command, advance. -/
def reasonCommand : Nat := 0
def reasonAdvance : Nat := 1

/-! ### Header flags (R137) -/

/-- Whether an involved module got no slot. -/
def Part.slotless (p : Part) : Bool := p.slot.isNone

/-- Whether the latched hand-off state is FADING. -/
def Phase.isFading : Phase → Bool
  | .fading _ _ => true
  | _ => false

/-- Whether the latched hand-off state is STARVED. -/
def Phase.isStarved : Phase → Bool
  | .starved _ => true
  | _ => false

/-- The header flags of an output frame from what it latched and its parts (R137). -/
def headerFlags (latched : Published) (serving second : Option Part) : HeaderFlags where
  coverage := serving.elim false (·.coverageFailed) || second.elim false (·.coverageFailed)
  noFrame := serving.elim true Part.slotless || second.elim false Part.slotless
  stepClamped := serving.elim false (·.stepClamped) || second.elim false (·.stepClamped)
  unrefined := latched.phase.isFading && latched.unrefined
  frozen := latched.frozen
  starved := latched.phase.isStarved
  returning := latched.phase.isFading && latched.direction == .returning

end Sys2Proof.Machine
end

