-- ==== Sys2Proof/Machine/Ops.lean ====
section
/-! DEFINITION. The shared operations: the Agent's writes, event raises, status records and snapshots; the answer
queues; the Slot Store's requests. (The block has no exception to take: an error is an answer, an outcome or an event.) -/

namespace Sys2Proof.Machine

/-! ### The event's time and the model's serial numbers -/

/-- The state at an event: the time count reads `t` (log 1). -/
def State.atTime (s : State) (t : Time) : State := { s with time := t }

/-- The state with one more serial number used (log 3). -/
def State.nextSerial (s : State) : State := { s with serial := s.serial + 1 }

/-- The module a 32-bit argument names: none at or above the module count (2.8). -/
def moduleArg (cfg : Config) (m : Word) : Option ModuleId :=
  if m.toNat < cfg.modules.toNat then
    if h : m.toNat < 4 then some ⟨m.toNat, h⟩ else none
  else none

/-- The view a 32-bit argument names: none above 1 (8.2). -/
def viewArg (v : Word) : Option ViewId := if h : v.toNat < 2 then some ⟨v.toNat, h⟩ else none

/-! ### Agent: writes, events, attention (R156, R163 to R166) -/

/-- One write of the Agent into the control page, at an offset of it (R156). -/
def Agent.issue (a : Agent) (cfg : Config) (offset : Nat) (bytes : List Byte) : Agent :=
  { a with writes := a.writes ++ [{ address := cfg.controlPage + offset, bytes := bytes, answered := none }] }

/-- Sets the attention line from the flags and the mask (R166). -/
def Agent.setLine (a : Agent) : Agent := { a with attention := attentionOf a.events a.mask }

/-- Writes entry n of the event summary as it now stands (R163). -/
def Agent.writeEvent (a : Agent) (cfg : Config) (n : Fin 16) : Agent :=
  a.issue cfg (eventOffset + 16 * n.val) (eventBytes a.events[n])

/-- A raise at the Agent (R163): flag, count and detail; the entry; the line. -/
def Agent.raise (a : Agent) (cfg : Config) (t : Time) (r : Raise) : Agent :=
  let n := r.kind.index
  (({ a with events := upd a.events n (·.raised (r.detail t)) } : Agent).writeEvent cfg n).setLine

/-- A block raises an event (R163). -/
def State.raise (s : State) (r : Raise) : State := { s with agent := s.agent.raise s.cfg s.time r }

/-- A block raises several events, in the order given (R163). -/
def State.raiseAll (s : State) (rs : List Raise) : State := rs.foldl State.raise s

/-- Clears one event kind and rewrites its entry (R165). -/
def Agent.clearKind (a : Agent) (cfg : Config) (n : Fin 16) : Agent :=
  ({ a with events := a.events.set n .clear } : Agent).writeEvent cfg n

/-- Writes the state snapshot, its count increased by 1 (R167). -/
def State.writeSnapshot (s : State) (cause : SnapshotCause) : State :=
  let count := s.agent.snapshotCount + 1
  let bytes := snapshotBytes s.cfg count cause s.agent.writes.length s.time s.trackers s.ctl s.reg
  { s with agent := ({ s.agent with snapshotCount := count } : Agent).issue s.cfg snapshotOffset bytes }

/-- What a command ends with: its outcome and up to three detail values, zero where the rule gives none (R159). -/
structure Reply where
  outcome : OutcomeCode
  d0 : Nat
  d1 : Nat
  d2 : Nat
deriving DecidableEq, Repr

/-- A reply without detail. -/
def Reply.plain (o : OutcomeCode) : Reply where
  outcome := o
  d0 := 0
  d1 := 0
  d2 := 0

/-- A reply with one detail value. -/
def Reply.one (o : OutcomeCode) (d : Nat) : Reply where
  outcome := o
  d0 := d
  d1 := 0
  d2 := 0

/-- Writes the status record of the command that ended (R159, R175). -/
def State.writeStatus (s : State) (seq : Word) (kind : Nat) (r : Reply) : State :=
  { s with
    agent := s.agent.issue s.cfg statusOffset (statusBytes seq kind r.outcome r.d0 r.d1 r.d2) }

/-! ### Answer queues (R17) -/

/-- Gives a transaction of requester `r` the next place of its answer queue, its answer not yet ready; the place is the
serial number in use. -/
def State.enqueue (s : State) (r : Byte) : State :=
  { s with
    serial := s.serial + 1
    path := { s.path with queue := s.path.queue ++ [{ requester := r, place := s.serial, answer := none }] } }

/-- Makes the answer of a queue entry ready if it is the one at `place`. -/
def QueueEntry.ready (place : Nat) (a : Answer) (e : QueueEntry) : QueueEntry :=
  if e.place = place then { e with answer := some a } else e

/-- Makes the answer at a place ready (R17). -/
def State.answer (s : State) (place : Nat) (a : Answer) : State :=
  { s with path := { s.path with queue := s.path.queue.map (QueueEntry.ready place a) } }

/-- Sends a transaction to memory through the memory-controller port (R1): it waits for memory's answer at its
place. -/
def State.forward (s : State) (place address : Nat) (x : Transaction) : State :=
  { s with
    path :=
      { s.path with
        downstream := s.path.downstream ++
          [{ place := place, address := address, len := x.len
             bytes := if isWrite x then some (writeBytes x) else none }] } }

/-- Splits a queue into what stays and what is returned: an entry is returned when its answer is ready and no earlier
entry of the same requester stays; `blocked` are the requesters of the entries that stay (R17). The queues of different
requesters are independent and R17 gives no order among them: that answers returned in one event stand in acceptance order
across requesters is the model's choice (log 29). -/
def splitReady (blocked : List Byte) : List QueueEntry → List QueueEntry × List Returned
  | [] => ([], [])
  | e :: es =>
    if blocked.contains e.requester then
      let r := splitReady blocked es
      (e :: r.1, r.2)
    else
      match e.answer with
      | some a =>
        let r := splitReady blocked es
        (r.1, { requester := e.requester, place := e.place, answer := a } :: r.2)
      | none =>
        let r := splitReady (e.requester :: blocked) es
        (e :: r.1, r.2)

/-- Returns every answer that is ready at the head of its requester's queue (R17). -/
def State.deliver (s : State) : State :=
  let r := splitReady [] s.path.queue
  { s with path := { s.path with queue := r.1, returned := s.path.returned ++ r.2 } }

/-! ### Slots and holders (R39 to R48) -/

/-- The empty holder set. -/
def noHolders : HolderSet := Vector.replicate 7 false

/-- Whether a holder is in the set. -/
def HolderSet.has (h : HolderSet) (x : Holder) : Bool := Vector.get h x.index

/-- The set with a holder added; adding one already there changes nothing (R43). -/
def HolderSet.add (h : HolderSet) (x : Holder) : HolderSet := Vector.set h x.index true

/-- The set with a holder removed; removing one not there changes nothing (R43). -/
def HolderSet.remove (h : HolderSet) (x : Holder) : HolderSet := Vector.set h x.index false

/-- Whether the set is empty. -/
def HolderSet.isEmpty (h : HolderSet) : Bool := (Vector.toList h).all (!·)

/-- Whether a slot is FREE. -/
def Slot.isFree (s : Slot) : Bool := s.state == .free

/-- Whether a slot is FILLING. -/
def Slot.isFilling (s : Slot) : Bool := s.state == .filling

/-- The frame record of a READY slot (R41). -/
def Slot.record (s : Slot) : Option FrameRecord :=
  match s.state with
  | .ready r => some r
  | .free => none
  | .filling => none

/-- Whether a slot is READY. -/
def Slot.isReady (s : Slot) : Bool := s.record.isSome

/-- Whether a slot is READY with an empty holder set. -/
def Slot.unheld (s : Slot) : Bool := s.isReady && HolderSet.isEmpty s.holders

/-- A loaded slot, FREE and without holders (R50). -/
def Slot.loaded (base size : Nat) : Slot where
  base := base
  size := size
  state := .free
  holders := noHolders

/-- The slot as the fill slot of an open frame (R44). -/
def Slot.fill (s : Slot) : Slot := { s with state := .filling, holders := noHolders }

/-- The slot returned FREE, with no frame record (R45, R48). -/
def Slot.release (s : Slot) : Slot := { s with state := .free, holders := noHolders }

/-- The slot READY with its frame record and an empty holder set (R45). -/
def Slot.closed (s : Slot) (r : FrameRecord) : Slot := { s with state := .ready r, holders := noHolders }

/-- The slot with a holder added, if it is READY (R40, R46). -/
def Slot.hold (s : Slot) (x : Holder) : Slot :=
  if s.isReady then { s with holders := HolderSet.add s.holders x } else s

/-- The slot with a holder removed (R43). -/
def Slot.unhold (s : Slot) (x : Holder) : Slot := { s with holders := HolderSet.remove s.holders x }

/-- The extent of a slot: base to base + P - 1 (R39). -/
def Slot.extent (s : Slot) : Extent where
  start := s.base
  size := s.size

/-- The newest READY slot: the tail of the ready list (R42). -/
def ModuleSlots.newest (ms : ModuleSlots) : Option Nat := ms.ready.getLast?

/-- The frame record of the newest READY slot. -/
def ModuleSlots.newestRecord (ms : ModuleSlots) : Option FrameRecord :=
  ms.newest.bind fun i => ms.slots[i]?.bind Slot.record

/-- Whether slot i is READY and unheld. -/
def ModuleSlots.recyclable (ms : ModuleSlots) (i : Nat) : Bool := ms.slots[i]?.elim false Slot.unheld

/-- The fill slot the Slot Store would grant: the lowest FREE slot, else the oldest READY slot with no holder, else
none (R44). -/
def ModuleSlots.grant (ms : ModuleSlots) : Option Nat :=
  match ms.slots.findIdx? Slot.isFree with
  | some i => some i
  | none => ms.ready.find? ms.recyclable

/-- The module's slots with slot i granted: it becomes FILLING and leaves the ready list (R44). -/
def ModuleSlots.take (ms : ModuleSlots) (i : Nat) : ModuleSlots :=
  { ms with slots := ms.slots.modify i Slot.fill, ready := ms.ready.filter (· != i) }

/-- A close: slot i becomes READY with its record, at the tail of the ready list (R45). -/
def ModuleSlots.close (ms : ModuleSlots) (i : Nat) (r : FrameRecord) : ModuleSlots :=
  { ms with slots := ms.slots.modify i (·.closed r), ready := ms.ready ++ [i] }

/-- A return: slot i becomes FREE (R45). -/
def ModuleSlots.giveBack (ms : ModuleSlots) (i : Nat) : ModuleSlots :=
  { ms with slots := ms.slots.modify i Slot.release }

/-- Adds a holder to slot i, if it is READY (R46). -/
def ModuleSlots.hold (ms : ModuleSlots) (i : Nat) (x : Holder) : ModuleSlots :=
  { ms with slots := ms.slots.modify i (·.hold x) }

/-- Removes a holder from every slot that has it (R43). -/
def ModuleSlots.unhold (ms : ModuleSlots) (x : Holder) : ModuleSlots :=
  { ms with slots := ms.slots.map (·.unhold x) }

/-- A purge: every unheld READY slot becomes FREE and leaves the ready list; the held ones keep their order (R48). -/
def ModuleSlots.purge (ms : ModuleSlots) : ModuleSlots :=
  { ms with
    slots := ms.slots.map fun s => if s.unheld then s.release else s
    ready := ms.ready.filter fun i => !ms.recyclable i }

/-- The slot of the module that carries a holder. -/
def ModuleSlots.slotWith (ms : ModuleSlots) (x : Holder) : Option Nat :=
  ms.slots.findIdx? fun s => HolderSet.has s.holders x

/-- Changes one module's share of the Slot Store. -/
def State.modSlots (s : State) (m : ModuleId) (f : ModuleSlots → ModuleSlots) : State :=
  { s with store := { s.store with mods := upd s.store.mods m f } }

/-- Removes a holder from every slot of every module. -/
def State.unholdAll (s : State) (x : Holder) : State :=
  { s with store := { s.store with mods := mapAll (·.unhold x) s.store.mods } }

/-- Empties a module's slot list (R39). -/
def State.emptySlots (s : State) (m : ModuleId) : State := s.modSlots m fun _ => .empty

/-- Pins the newest frame of a module with a holder: the slot, or none (R46). -/
def State.pinNewest (s : State) (m : ModuleId) (x : Holder) : State × Option Nat :=
  match s.store.mods[m].newest with
  | some i => (s.modSlots m (·.hold i x), some i)
  | none => (s, none)

/-- Pins the slot of a module that carries the freeze holder: the slot, or none (R133). -/
def State.pinFrozen (s : State) (m : ModuleId) (x : Holder) : State × Option Nat :=
  match s.store.mods[m].slotWith .freeze with
  | some i => (s.modSlots m (·.hold i x), some i)
  | none => (s, none)

/-! ### Trackers and the other blocks -/

/-- Changes one module's tracker. -/
def State.modTracker (s : State) (m : ModuleId) (f : Tracker → Tracker) : State :=
  { s with trackers := upd s.trackers m f }

/-- Changes what the Controller keeps for one module. -/
def Controller.modModule (c : Controller) (m : ModuleId) (f : ModuleComp → ModuleComp) : Controller :=
  { c with mods := upd c.mods m f }

/-- Changes the Controller. -/
def State.modCtl (s : State) (f : Controller → Controller) : State := { s with ctl := f s.ctl }

/-- Changes one view. -/
def State.modView (s : State) (v : ViewId) (f : View → View) : State :=
  { s with comp := { s.comp with views := upd s.comp.views v f } }

/-- Whether a module is LIVE (R22). -/
def State.live (s : State) (m : ModuleId) : Bool := s.trackers[m].deadline.isSome

/-- The pacing view: the lowest-numbered enabled view (R86). -/
def State.pacingView (s : State) : Option ViewId := allViews.find? fun v => s.comp.views[v].enabled

/-- The output frame in a record of a view. -/
def View.frame (w : View) (f : FrameName) : Option OutputFrame :=
  match f with
  | .a => w.frameA
  | .b => w.frameB

/-- The view with a record replaced. -/
def View.setFrame (w : View) (f : FrameName) (o : Option OutputFrame) : View :=
  match f with
  | .a => { w with frameA := o }
  | .b => { w with frameB := o }

/-- Whether a record holds an OPEN output frame. -/
def View.isOpen (w : View) (f : FrameName) : Bool := (w.frame f).elim false (·.status == .opened)

/-- The record of the OPEN output frame, the newest of the view (R106, R130). -/
def View.openName (w : View) : Option FrameName :=
  if w.isOpen .a then some .a else if w.isOpen .b then some .b else none

end Sys2Proof.Machine
end

