-- ==== Sys2Proof/Machine/Geometry.lean ====
section
/-! DEFINITION. The geometry and the pixel arithmetic: parallax, step, sample coordinates, coverage (R65 to R71), profile
rectangles (R96), the bytes of a pixel answer (R139 to R143) and the fetch set of a read (R148, R149). -/

namespace Sys2Proof.Machine

/-! ### Parallax and step (R65, R67) -/

/-- The value between two table points: the whole value rounded to nearest, halves away from zero (R65). -/
def interpolate (f0 : Nat) (d0 : Int) (f1 : Nat) (d1 : Int) (f : Nat) : Int :=
  roundHalfAway (d0 * ((f1 : Int) - f0) + (d1 - d0) * ((f : Int) - f0)) (f1 - f0)

/-- The parallax from an entry the focus code has reached, through the entries above it. -/
def parallaxFrom (d : ParallaxEntry → Int) (f : Nat) (e : ParallaxEntry) : List ParallaxEntry → Int
  | [] => d e
  | e' :: es => if f < e'.focus then interpolate e.focus (d e) e'.focus (d e') f else parallaxFrom d f e' es

/-- The parallax of a table on one axis at a focus code (R65); 0 for an empty table. -/
def parallax (d : ParallaxEntry → Int) (table : List ParallaxEntry) (f : Nat) : Int :=
  match table with
  | [] => 0
  | e :: es => if f ≤ e.focus then d e else parallaxFrom d f e es

/-- The step before its clamp: FW × s × 65536 / (Zq × Wv), rounded to nearest (R67). -/
def rawStep (fw scale zq wv : Nat) : Nat := roundHalfUp (fw * scale * 65536) (zq * wv)

/-- The step dstep_q (R67). -/
def stepOf (fw scale zq wv : Nat) : Nat := clamp 1 1048575 (rawStep fw scale zq wv)

/-- Whether the step was clamped (R67). -/
def stepClampedOf (fw scale zq wv : Nat) : Bool := clamped (rawStep fw scale zq wv) (stepOf fw scale zq wv)

/-! ### Sample coordinates (R68 to R70) -/

/-- The sample coordinate of output column or row `x` of `n`: from a centre, an offset and a step, in 1/256 module
pixel, rounded to nearest with halves upward (R68). -/
def sampleCoord (centre offset : Int) (step n x : Nat) : Int :=
  (2 * (centre + offset) + (2 * (x : Int) + 1 - n) * step + 256) / 512

/-- The greatest sample coordinate of a frame axis of `size` pixels: 256 × (size - 1) (R69). -/
def coordMax (size : Nat) : Int := 256 * ((size : Int) - 1)

/-- A sample coordinate clamped to the frame (R69). -/
def clampCoord (size : Nat) (c : Int) : Nat := (clampInt 0 (coordMax size) c).toNat

/-- One axis of a sample: the column or row, its neighbour, and the weight (R69). -/
structure AxisSample where
  at0 : Nat
  at1 : Nat
  weight : Nat
deriving DecidableEq, Repr

/-- The split of a clamped coordinate (R69). -/
def splitCoord (size : Nat) (c : Int) : AxisSample :=
  let k := clampCoord size c
  { at0 := k / 256, at1 := min (k / 256 + 1) (size - 1), weight := k % 256 }

/-- The horizontal sample coordinate of a part at output column x of a view. -/
def Part.coordX (p : Part) (w : View) (x : Nat) : Int := sampleCoord p.cx p.ox p.step w.width x

/-- The vertical sample coordinate of a part at output row y of a view. -/
def Part.coordY (p : Part) (w : View) (y : Nat) : Int := sampleCoord p.cy p.oy p.step w.height y

/-- The horizontal sample of a part. -/
def Part.sampleX (p : Part) (w : View) (x : Nat) : AxisSample := splitCoord p.width (p.coordX w x)

/-- The vertical sample of a part. -/
def Part.sampleY (p : Part) (w : View) (y : Nat) : AxisSample := splitCoord p.height (p.coordY w y)

/-- Whether a coordinate lies outside the frame (R70). -/
def outsideFrame (size : Nat) (c : Int) : Bool := decide (c < 0) || decide (coordMax size < c)

/-- The coverage decision at the four corners of the view (R70). -/
def Part.failsCoverage (p : Part) (w : View) : Bool :=
  outsideFrame p.width (p.coordX w 0) || outsideFrame p.width (p.coordX w (w.width - 1))
    || outsideFrame p.height (p.coordY w 0) || outsideFrame p.height (p.coordY w (w.height - 1))

/-! ### Profile rectangles (R96) -/

/-- The left or top edge: the exact centre less half the size, rounded to nearest with halves upward. -/
def rectEdge (centre : Int) (size : Nat) : Int := (centre - 32768 * (size : Int) + 32768) / 65536

/-- The rectangle of a module at zoom `z`, for a pacing view of `wp` by `hp`, at focus code `focus` (none: the module
has no READY frame and the parallax term is 0). `rx`, `ry` is the refinement that enters the centre: S's own for S,
zero for I (R96). -/
def profileRect (generation : Word) (fw z wp hp : Nat) (cal : Calibration) (focus : Option Nat) (rx ry : Int) : Rect :=
  let rw := max 64 (roundHalfUp (fw * cal.scale) z)
  let rh := max 64 (roundHalfUp (rw * hp) wp)
  let px := focus.elim 0 (parallax (·.dx) cal.parallax)
  let py := focus.elim 0 (parallax (·.dy) cal.parallax)
  { generation := generation
    left := rectEdge (cal.cx + 4096 * px + rx) rw
    top := rectEdge (cal.cy + 4096 * py + ry) rh
    width := rw
    height := rh }

/-! ### Pixel words and pixel arithmetic (R139 to R143, R172) -/

/-- The three components of a pixel (R172). -/
structure Pixel where
  y : Nat
  cb : Nat
  cr : Nat
deriving DecidableEq, Repr

/-- Black: Y 0, Cb 512, Cr 512 (00_scope.md "Pixels"). -/
def Pixel.black : Pixel where
  y := 0
  cb := 512
  cr := 512

/-- The components of a source word; bits 30 and 31 are ignored (R140, R172). -/
def Pixel.ofWord (w : Word) : Pixel where
  y := w.toNat % 1024
  cb := w.toNat / 1024 % 1024
  cr := w.toNat / 1048576 % 1024

/-- The word of a pixel, bits 30 and 31 zero (R142, R172). -/
def Pixel.bytes (p : Pixel) : List Byte := leBytes 4 (p.y + 1024 * p.cb + 1048576 * p.cr)

/-- The bilinear formula for one component (R140). -/
def bilinear (p00 p10 p01 p11 fx fy : Nat) : Nat :=
  (p00 * (256 - fx) * (256 - fy) + p10 * fx * (256 - fy) + p01 * (256 - fx) * fy + p11 * fx * fy + 32768) / 65536

/-- The luma gain (R141). -/
def applyGain (y g : Nat) : Nat := min 1023 ((y * g + 8192) / 16384)

/-- The blend of S and I by alpha for one component (R142). -/
def blend (a b alpha : Nat) : Nat := (a * (256 - alpha) + b * alpha + 128) / 256

/-- The source word at a row and column of a part, from what the entry has received. A COMPLETE entry has every word its
pixels need (R150); a word that is missing reads as 0, which no reachable state shows (log 18). -/
def sourceWord (source : List SourceRun) (second : Bool) (row col : Nat) : Word :=
  (source.findSome? fun r =>
    if r.second = second ∧ r.row = row ∧ r.col ≤ col then r.words[col - r.col]? else none).getD 0

/-- The corrected pixel of a part at output pixel (x, y): black without a slot, else interpolated and its luma gained
(R140, R141, R142). -/
def partPixel (w : View) (source : List SourceRun) (second : Bool) (p : Part) (x y : Nat) : Pixel :=
  if p.slot.isNone then .black
  else
    let h := p.sampleX w x
    let v := p.sampleY w y
    let p00 := Pixel.ofWord (sourceWord source second v.at0 h.at0)
    let p10 := Pixel.ofWord (sourceWord source second v.at0 h.at1)
    let p01 := Pixel.ofWord (sourceWord source second v.at1 h.at0)
    let p11 := Pixel.ofWord (sourceWord source second v.at1 h.at1)
    { y := applyGain (bilinear p00.y p10.y p01.y p11.y h.weight v.weight) p.gain
      cb := bilinear p00.cb p10.cb p01.cb p11.cb h.weight v.weight
      cr := bilinear p00.cr p10.cr p01.cr p11.cr h.weight v.weight }

/-- The output pixel at (x, y) (R142). -/
def outputPixel (w : View) (f : OutputFrame) (source : List SourceRun) (x y : Nat) : Pixel :=
  let a := f.serving.elim .black fun p => partPixel w source false p x y
  match f.second with
  | none => a
  | some q =>
    let b := partPixel w source true q x y
    let alpha := f.latched.alpha
    { y := blend a.y b.y alpha, cb := blend a.cb b.cb alpha, cr := blend a.cr b.cr alpha }

/-- Whether pixel-area byte `b` lies in an output pixel word, and not in stride padding or the rounded tail (R139). -/
def inPicture (w : View) (b : Nat) : Bool :=
  decide (b / w.stride < w.height) && decide (b % w.stride < 4 * w.width)

/-- Byte `b` of the pixel area of a view whose pixels are `pixel x y`: zero outside the picture (R139). -/
def pixelAreaByte (w : View) (pixel : Nat → Nat → Pixel) (b : Nat) : Byte :=
  if inPicture w b then (pixel (b % w.stride / 4) (b / w.stride)).bytes.getD (b % w.stride % 4) 0 else 0

/-- The answer of a PIXEL read (R139). -/
def pixelAnswer (w : View) (f : OutputFrame) (source : List SourceRun) (offset len : Nat) : List Byte :=
  (List.range len).map fun i => pixelAreaByte w (outputPixel w f source) (offset - 4096 + i)

/-- The answer of an EMPTY read: header-page bytes zero, the picture black (R143). -/
def emptyAnswer (w : View) (offset len : Nat) : List Byte :=
  (List.range len).map fun i =>
    if offset + i < 4096 then 0 else pixelAreaByte w (fun _ _ => .black) (offset + i - 4096)

/-! ### The fetch set (R148, R149) -/

/-- A row of output pixels a read covers: row y, first and last output column (R148). -/
structure PixelSpan where
  y : Nat
  first : Nat
  last : Nat
deriving DecidableEq, Repr

/-- The rows that hold a pixel byte of a read of pixel-area bytes `b0` to `b1` (R148). -/
def pixelSpans (w : View) (b0 b1 : Nat) : List PixelSpan :=
  (List.range (b1 / w.stride - b0 / w.stride + 1)).filterMap fun i =>
    let y := b0 / w.stride + i
    let u0 := b0 - y * w.stride
    let u1 := min (b1 - y * w.stride) (w.stride - 1)
    if y < w.height ∧ u0 < 4 * w.width then
      some { y := y, first := u0 / 4, last := min (u1 / 4) (w.width - 1) }
    else none

/-- A run: a source row, a first and a last column (R148). -/
structure Run where
  row : Nat
  first : Nat
  last : Nat
deriving DecidableEq, Repr

/-- Puts a run among runs by increasing row; two runs of one row join into one (R148). -/
def insertRun (r : Run) : List Run → List Run
  | [] => [r]
  | x :: xs =>
    if r.row < x.row then r :: x :: xs
    else if r.row = x.row then { row := x.row, first := min r.first x.first, last := max r.last x.last } :: xs
    else x :: insertRun r xs

/-- The two source rows of one span, over the columns its pixels sample. -/
def spanRuns (w : View) (p : Part) (s : PixelSpan) : List Run :=
  let v := p.sampleY w s.y
  let first := (p.sampleX w s.first).at0
  let last := (p.sampleX w s.last).at1
  [{ row := v.at0, first := first, last := last }, { row := v.at1, first := first, last := last }]

/-- The runs of a part, by increasing source row; none without a slot (R148). -/
def partRuns (w : View) (p : Part) (spans : List PixelSpan) : List Run :=
  if p.slot.isNone then [] else (spans.map (spanRuns w p)).flatten.foldl (fun acc r => insertRun r acc) []

/-- Cuts `words` pixel words from `address` on, beginning at column `col`: each piece as long as the two limits of R149
allow, 256 bytes and the next 4096-byte boundary (log 13). `fuel` bounds the number of pieces. -/
def cutRun (second : Bool) (m : ModuleId) (row : Nat) : Nat → Nat → Nat → Nat → List FetchSpec
  | 0, _, _, _ => []
  | fuel + 1, col, address, words =>
    if words = 0 then []
    else
      let n := min words (min 64 (max 1 ((4096 - address % 4096) / 4)))
      { second := second, module := m, row := row, col := col, words := n, address := address }
        :: cutRun second m row fuel (col + n) (address + 4 * n) (words - n)

/-- The fetches of one run of a part, by increasing address (R149). -/
def runFetches (second : Bool) (p : Part) (r : Run) : List FetchSpec :=
  cutRun second p.module r.row (r.last - r.first + 1) r.first (p.base + r.row * p.stride + 4 * r.first)
    (r.last - r.first + 1)

/-- The fetches of one part of a read, by increasing row and address. -/
def partFetches (w : View) (second : Bool) (p : Option Part) (spans : List PixelSpan) : List FetchSpec :=
  p.elim [] fun p => ((partRuns w p spans).map (runFetches second p)).flatten

/-- All fetches of a PIXEL read of an output frame, S before I (R148, R149). -/
def fetchSet (w : View) (f : OutputFrame) (offset len : Nat) : List FetchSpec :=
  let spans := pixelSpans w (offset - 4096) (offset - 4096 + len - 1)
  partFetches w false f.serving spans ++ partFetches w true f.second spans

/-- The pixel words a fetch answer brings (R150). -/
def fetchWords (spec : FetchSpec) (p : Payload) : List Word :=
  (List.range spec.words).map fun i => word (leNat ((p.toList.drop (4 * i)).take 4))

end Sys2Proof.Machine
end

