-- ==== Sys2Proof/Machine/Profiles.lean ====
section
/-! DEFINITION. The Registration Unit: accumulators (R108, R109), the pair test (R112), the computation (R114 to R120), the
trailer-based ratio (R124) and cancellation (R122). -/

namespace Sys2Proof.Machine

/-! ### Accumulators (R108, R109) -/

/-- The greatest value of a sum or count: 2^64 - 1, where it stays (R109). -/
def saturation : Nat := 18446744073709551615

/-- A bin with one pixel of luma `y` added (R109). -/
def Bin.add (b : Bin) (y : Nat) : Bin where
  sum := min (b.sum + y) saturation
  count := min (b.count + 1) saturation

/-- A fresh accumulator over a rectangle (R108). -/
def Profile.fresh (r : Rect) : Profile where
  rect := r
  cols := Vector.replicate 64 { sum := 0, count := 0 }
  rows := Vector.replicate 64 { sum := 0, count := 0 }
  total := { sum := 0, count := 0 }

/-- A counted pixel: row, column and luma (R24). -/
structure CountedPixel where
  row : Nat
  col : Nat
  luma : Nat
deriving DecidableEq, Repr

/-- Whether a pixel is inside a rectangle (R109). -/
def Rect.inside (r : Rect) (p : CountedPixel) : Bool :=
  decide (0 ≤ (p.col : Int) - r.left) && decide ((p.col : Int) - r.left < r.width)
    && decide (0 ≤ (p.row : Int) - r.top) && decide ((p.row : Int) - r.top < r.height)

/-- The bin of a coordinate `d` within `size`: floor(d × 64 / size) (R109). -/
def binOf (d size : Nat) : Nat := d * 64 / size

/-- Adds one pixel to one of 64 bins. -/
def addToBin (bins : Vector Bin 64) (i y : Nat) : Vector Bin 64 :=
  if h : i < 64 then upd bins ⟨i, h⟩ (·.add y) else bins

/-- Adds a counted pixel to an accumulator: nothing outside the rectangle; inside, its column bin, its row bin and the
total (R109). -/
def Profile.addPixel (a : Profile) (p : CountedPixel) : Profile :=
  if a.rect.inside p then
    { a with
      cols := addToBin a.cols (binOf ((p.col : Int) - a.rect.left).toNat a.rect.width) p.luma
      rows := addToBin a.rows (binOf ((p.row : Int) - a.rect.top).toNat a.rect.height) p.luma
      total := a.total.add p.luma }
  else a

/-! ### The computation for one axis (R114 to R118) -/

/-- The mean of a bin in 1/16 luma code; a bin of count 0 is invalid (R114). -/
def Bin.mean (b : Bin) : Option Nat :=
  if b.count = 0 then none else some ((32 * b.sum + b.count) / (2 * b.count))

/-- The relative gain (R115). -/
def relativeGain (s i : Bin) : Nat :=
  if i.sum = 0 ∨ s.count = 0 ∨ i.count = 0 then 16384
  else clamp 4096 65535 (roundHalfUp (16384 * s.sum * i.count) (s.count * i.sum))

/-- An incoming mean brought to the serving module's brightness (R116). -/
def scaledMean (gRel m : Nat) : Nat := (m * gRel + 8192) / 16384

/-- The serving means of an axis. -/
def servingMeans (bins : Vector Bin 64) : List (Option Nat) := bins.toList.map Bin.mean

/-- The scaled incoming means of an axis (R116). -/
def incomingMeans (gRel : Nat) (bins : Vector Bin 64) : List (Option Nat) :=
  bins.toList.map fun b => b.mean.map (scaledMean gRel)

/-- The difference of two natural numbers. -/
def absDiff (a b : Nat) : Nat := if a ≤ b then b - a else a - b

/-- The bin index i + s of a shift s from -8 to +8, for i from 8 to 55. -/
def shifted (i : Nat) (s : Int) : Nat := ((i : Int) + s).toNat

/-- The differences of the compared bins at a shift: those of bins 8 to 55 where both means are valid (R117). -/
def comparedBins (ms mi : List (Option Nat)) (s : Int) : List Nat :=
  (List.range 48).filterMap fun j =>
    match ms.getD (j + 8) none, mi.getD (shifted (j + 8) s) none with
    | some a, some b => some (absDiff a b)
    | _, _ => none

/-- norm(s), none where the shift is not considered: fewer than 24 compared bins (R117). -/
def normAt (ms mi : List (Option Nat)) (s : Int) : Option Nat :=
  let d := comparedBins ms mi s
  if d.length < 24 then none else some (roundHalfUp (d.sum * 48) d.length)

/-- The shifts in the order of preference among equal norms: the smaller magnitude first, and of +s and -s the
negative one (R117). -/
def shiftOrder : List Int := [0, -1, 1, -2, 2, -3, 3, -4, 4, -5, 5, -6, 6, -7, 7, -8, 8]

/-- The better of the best so far and a shift: strictly less norm wins. -/
def betterShift (norm : Int → Option Nat) (best : Option (Int × Nat)) (s : Int) : Option (Int × Nat) :=
  match norm s, best with
  | none, b => b
  | some n, none => some (s, n)
  | some n, some (s', n') => if n < n' then some (s, n) else some (s', n')

/-- The best shift with its norm, none where no shift is considered (R117). -/
def bestShift (norm : Int → Option Nat) : Option (Int × Nat) := shiftOrder.foldl (betterShift norm) none

/-- The fraction and the edge mark of the best shift (R118). -/
def fraction (norm : Int → Option Nat) (s : Int) (n : Nat) : Int × Bool :=
  if s = -8 ∨ s = 8 then (0, true)
  else
    match norm (s - 1), norm (s + 1) with
    | some a, some b =>
      let den := (a : Int) - 2 * n + b
      if den ≤ 0 then (0, false)
      else (clampInt (-128) 128 (roundHalfAway (128 * ((a : Int) - b)) den.toNat), false)
    | _, _ => (0, true)

/-- The result of one axis: a fit or the reason it failed (R117, R118). -/
def axisResult (ms mi : List (Option Nat)) (quality : Nat) : Except AxisFailure AxisFit :=
  let norm := normAt ms mi
  match bestShift norm with
  | none => .error .tooFewBins
  | some (s, n) =>
    if 48 * quality < n then .error (.quality n)
    else
      let f := fraction norm s n
      .ok { shift := s, frac := f.1, edge := f.2, norm := n }

/-- The refinement of a successful axis, clamped to the signed 32-bit range (R119). -/
def refinement (f : AxisFit) (size : Nat) : Int :=
  clampInt (-2147483648) 2147483647 ((256 * f.shift + f.frac) * size * 4)

/-- The outcome from the two axes, horizontal before vertical (R120). -/
def regOutcome (h v : Except AxisFailure AxisFit) (rect : Rect) : RegOutcome :=
  match h with
  | .error e => .failHorizontal e
  | .ok fh =>
    match v with
    | .error e => .failVertical fh e
    | .ok fv => .success fh fv (refinement fh rect.width) (refinement fv rect.height)

/-- The result of the computation in flight (R114 to R120). -/
def RegContext.compute (c : RegContext) : RegResult :=
  let gRel := relativeGain c.servingProfile.total c.incomingProfile.total
  let h := axisResult (servingMeans c.servingProfile.cols) (incomingMeans gRel c.incomingProfile.cols) c.quality
  let v := axisResult (servingMeans c.servingProfile.rows) (incomingMeans gRel c.incomingProfile.rows) c.quality
  { generation := c.generation
    serving := c.serving
    incoming := c.incoming
    servingFrame := c.servingFrame
    incomingFrame := c.incomingFrame
    gRel := gRel
    outcome := regOutcome h v c.incomingProfile.rect }

/-- Whether a result is a success that carries a generation (R98, R112). -/
def RegResult.succeeds (r : RegResult) (generation : Word) : Bool :=
  r.outcome.failure.isNone && r.generation == generation

/-! ### The pair test (R112) -/

/-- Whether two midpoints differ by at most the tolerance; the difference is formed exactly (R112). -/
def withinTolerance (a b : Time) (tolerance : Nat) : Bool := decide (absDiff a.toNat b.toNat ≤ tolerance)

/-- Whether a module is LIVE and its reset mark is clear (R112). -/
def State.usable (s : State) (m : ModuleId) : Bool := s.live m && !s.ctl.mods[m].resetMark

/-- The context of an accepted pair of newest frames of S and I, none where the pair is refused (R112). -/
def State.pairContext (s : State) (sm im : ModuleId) : Option RegContext :=
  match s.store.mods[sm].newestRecord, s.store.mods[im].newestRecord with
  | some fs, some fi =>
    match fs.profile, fi.profile with
    | some ps, some pi =>
      if ps.rect.generation = s.ctl.generation ∧ pi.rect.generation = s.ctl.generation
          ∧ s.usable sm ∧ s.usable im ∧ withinTolerance fs.midpoint fi.midpoint s.ctl.params.tolerance then
        some
          { serving := sm, incoming := im, generation := s.ctl.generation, quality := s.ctl.params.quality
            servingProfile := ps, incomingProfile := pi, servingFrame := fs.frame, incomingFrame := fi.frame }
      else none
    | _, _ => none
  | _, _ => none

/-- The Unit at a good close of module `m`: it looks for a pair when it is IDLE, the state is PREPARING, `m` is S or I,
and the last result is no success of the current generation; an accepted pair makes it COMPUTING (R112). -/
def State.lookForPair (s : State) (m : ModuleId) : State :=
  match s.reg.context, s.ctl.phase with
  | none, .preparing sm im =>
    if (m = sm ∨ m = im) ∧ s.reg.last.all (fun r => !r.succeeds s.ctl.generation) then
      match s.pairContext sm im with
      | some c => { s with reg := { s.reg with context := some c } }
      | none => s
    else s
  | _, _ => s

/-- The completion of a computation: the result is kept if its generation is the Controller's, else dropped; the Unit
becomes IDLE (R121). -/
def State.completeRegistration (s : State) : State :=
  match s.reg.context with
  | none => s
  | some c =>
    { s with
      reg := { context := none, last := if c.generation = s.ctl.generation then some c.compute else s.reg.last } }

/-- RESET_MODULE of either module named in the context cancels the computation (R122). -/
def Registration.cancel (r : Registration) (m : ModuleId) : Registration :=
  match r.context with
  | some c => if c.serving = m ∨ c.incoming = m then { r with context := none } else r
  | none => r

/-! ### The trailer-based ratio (R124) -/

/-- 16384 × E_S × G_S / (E_I × G_I), rounded to nearest and clamped; 16384 if S's ready list is empty (R124). -/
def trailerRatio (s i : Option FrameRecord) : Nat :=
  match s, i with
  | some fs, some fi => clamp 4096 65535 (roundHalfUp (16384 * fs.duration * fs.gain) (fi.duration * fi.gain))
  | _, _ => 16384

end Sys2Proof.Machine
end

