-- ==== Sys2Proof/Machine/Handoff.lean ====
section
/-! DEFINITION. The Hand-off Controller: the pacing advance with its five stages (R63, R75 to R83, R86 to R103, R105). The
stages are functions of the Controller that also give the events they raise, in order (R180); what they read of the
other blocks they read from the state before the advance, which no stage changes. -/

namespace Sys2Proof.Machine

/-- A Controller with the events raised so far in the advance. -/
structure Staged where
  ctl : Controller
  raised : List Raise
deriving DecidableEq, Repr

/-- The stage with one more event. -/
def Staged.raise (x : Staged) (r : Raise) : Staged := { x with raised := x.raised ++ [r] }

/-- An event of an advance: subject, and as second subject and frame number what caused the advance (R86, R164). -/
def Advance.event (a : Advance) (k : EventKind) (subject reason : Nat) : Raise where
  kind := k
  subject := subject
  second := a.view.val
  frame := a.frame
  reason := reason

/-! ### Shadow transfer (R63, R105) -/

/-- Every present pending copy moves into use and becomes absent (R63, R105). -/
def Controller.transfer (c : Controller) : Controller :=
  { c with
    field := c.pendingField.getD c.field
    pendingField := none
    params := c.pendingParams.getD c.params
    pendingParams := none
    mods := mapAll (fun (x : ModuleComp) =>
      { x with calibration := x.pendingCalibration.getD x.calibration, pendingCalibration := none }) c.mods }

/-! ### Zoom stage (R75 to R79, R81) -/

/-- The pending zoom request and the pending force change are taken (R75, R81). -/
def Controller.takeRequests (c : Controller) : Controller :=
  { c with
    zt := c.pendingZoom.elim c.zt (·.target)
    rate := c.pendingZoom.elim c.rate (·.rate)
    rampOpen := c.pendingZoom.isSome || c.rampOpen
    pendingZoom := none
    forced := match c.pendingForce with
      | none => c.forced
      | some (.force m) => some m
      | some .release => none
    pendingForce := none }

/-- Zt and then Zq clamped to the limits in use; ZOOM_CLAMPED once if either changed (R76). Its detail carries the clamped
zoom in the place of the frame number and no subjects, as R164 and R176 have it, and beside them the pacing view and the
output frame number that R86 gives every event of an advance; that these show in no record is the model's choice
(log 31). -/
def zoomClamp (a : Advance) (c : Controller) : Staged :=
  let zt := clamp c.field.zmin c.field.zmax c.zt
  let zq := clamp c.field.zmin c.field.zmax c.zq
  { ctl := { c with zt := zt, zq := zq }
    raised :=
      if clamped c.zt zt || clamped c.zq zq then
        [{ kind := .zoomClamped, subject := 0, second := 0, frame := word zq, reason := reasonAdvance, advance := some a }]
      else [] }

/-- One step of the zoom toward its target, upward (R77) or downward (R78). -/
def zoomStep (zq zt r : Nat) : Nat :=
  if zq = zt then zq
  else if r = 65536 then zt
  else if zq < zt then
    let z := (zq * r + 32768) / 65536
    if zt ≤ z then zt else if z = zq then zq + 1 else z
  else
    let z := (2 * zq * 65536 + r) / (2 * r)
    if z ≤ zt then zt else if z = zq then zq - 1 else z

/-- The end of the ramp: an open ramp whose zoom has arrived closes, and RAMP_DONE is raised (R79). -/
def rampEnd (a : Advance) (x : Staged) : Staged :=
  if x.ctl.rampOpen && x.ctl.zq == x.ctl.zt then
    { ctl := { x.ctl with rampOpen := false }
      raised := x.raised ++
        [{ kind := .rampDone, subject := a.view.val, second := 0, frame := a.frame, reason := 0 }] }
  else x

/-- The zoom moved one step (R77, R78). -/
def Controller.stepZoom (c : Controller) : Controller := { c with zq := zoomStep c.zq c.zt c.rate }

/-- The zoom stage. -/
def zoomStage (a : Advance) (c : Controller) : Staged :=
  let x := zoomClamp a c.takeRequests
  rampEnd a { x with ctl := x.ctl.stepZoom }

/-! ### Candidate and outgrowth (R80 to R83) -/

/-- The band distance of a calibration from a zoom (R80). -/
def bandDistance (cal : Calibration) (zq : Nat) : Nat :=
  if zq < cal.lo then cal.lo - zq else if cal.hi < zq then zq - cal.hi else 0

/-- Whether a module is eligible: enabled, LIVE and not barred (R80). -/
def eligible (s : State) (c : Controller) (m : ModuleId) : Bool :=
  s.trackers[m].record.enabled && s.live m && !c.mods[m].barred

/-- The nearer of the best so far and a module: strictly nearer wins, so that the lowest number does among equals. -/
def nearer (s : State) (c : Controller) (best : Option ModuleId) (m : ModuleId) : Option ModuleId :=
  if eligible s c m then
    match best with
    | none => some m
    | some b =>
      if bandDistance c.mods[m].calibration c.zq < bandDistance c.mods[b].calibration c.zq then some m else some b
  else best

/-- The candidate: the forced module if it is LIVE and else none (R81); with no force, the eligible module of least
band distance, the lowest number among equals, or none (R80). -/
def candidateOf (s : State) (c : Controller) : Option ModuleId :=
  match c.forced with
  | some f => if s.live f then some f else none
  | none => allModules.foldl (nearer s c) none

/-- Whether the serving module is outgrown at this zoom (R83). -/
def outgrown (c : Controller) (m : ModuleId) : Bool :=
  decide (c.mods[m].calibration.hi + c.params.hysteresis < c.zq) || decide (c.zq < c.mods[m].calibration.lo)

/-- Whether the zoom lies in [lo, hi] of a module (R101). -/
def inBand (c : Controller) (m : ModuleId) : Bool :=
  decide (c.mods[m].calibration.lo ≤ c.zq) && decide (c.zq ≤ c.mods[m].calibration.hi)

/-- Whether a module is lost: STALE, or its reset mark is set (R90). -/
def lost (s : State) (c : Controller) (m : ModuleId) : Bool := !s.live m || c.mods[m].resetMark

/-! ### Gains, rectangles and transitions (R89, R94 to R100) -/

/-- The rectangles cleared. -/
def Controller.clearRects (c : Controller) : Controller :=
  { c with mods := mapAll (fun (x : ModuleComp) => { x with rect := none }) c.mods }

/-- A module back at unity gain and zero refinement. -/
def ModuleComp.unity (x : ModuleComp) : ModuleComp := { x with gain := 16384, rx := 0, ry := 0 }

/-- Relaxation starts from the module's gain; with a relax length of 0 the gain is 16384 at once. A module that becomes
S is unbarred (R82, R94, R102). -/
def ModuleComp.takeOver (relax : Nat) (x : ModuleComp) : ModuleComp :=
  { x with
    relaxStart := x.gain
    relaxStep := 0
    gain := if relax = 0 then 16384 else x.gain
    barred := false }

/-- The state STEADY with a serving module and no fade: alpha 0, k 0, direction FORWARD, the unrefined flag and the
rectangles cleared. -/
def Controller.settle (c : Controller) (m : ModuleId) : Controller :=
  ({ c with
      phase := .steady m, alpha := 0, k := 0, direction := .forward, unrefined := false } : Controller).clearRects

/-- The former serving module at unity gain, unless it is the new one. -/
def Controller.retire (c : Controller) (former : Option ModuleId) (m : ModuleId) : Controller :=
  match former with
  | some f => if f = m then c else c.modModule f .unity
  | none => c

/-- A cut to a module (R94). -/
def cut (a : Advance) (x : Staged) (m : ModuleId) : Staged :=
  let c := ((x.ctl.retire x.ctl.phase.serving m).settle m).modModule m (.takeOver x.ctl.params.relax)
  { ctl := c, raised := x.raised ++ [a.event .handoffDone m.val reasonCut] }

/-- A lost S gives way: a cut to the candidate, or STARVED with S kept and the event (R93, case 1). -/
def giveWay (a : Advance) (x : Staged) (sm : ModuleId) : Staged :=
  match x.ctl.candidate with
  | some m => cut a x m
  | none =>
    { ctl := ({ x.ctl with phase := .starved (some sm), alpha := 0 } : Controller).clearRects
      raised := x.raised ++ [a.event .starved sm.val 0] }

/-- The focus code of the newest READY frame of a module, if it has one (R96). -/
def newestFocus (s : State) (m : ModuleId) : Option Nat := s.store.mods[m].newestRecord.map (·.focus)

/-- A hand-off toward a module is begun or restarted (R95, R96). -/
def beginHandoff (s : State) (a : Advance) (c : Controller) (sm im : ModuleId) : Controller :=
  let g := c.generation + 1
  let w := s.comp.views[a.view]
  let rs := profileRect g c.field.width c.zq w.width w.height c.mods[sm].calibration (newestFocus s sm)
    c.mods[sm].rx c.mods[sm].ry
  let ri := profileRect g c.field.width c.zq w.width w.height c.mods[im].calibration (newestFocus s im) 0 0
  let c := ({ c with phase := .preparing sm im, generation := g, prepareCounter := 0 } : Controller).clearRects
  let c := c.modModule sm fun x => { x with rect := some rs }
  c.modModule im fun x => { x with rect := some ri, rx := 0, ry := 0 }

/-- A fade begins with a relative gain, a refinement and the unrefined flag (R100). -/
def enterFade (c : Controller) (sm im : ModuleId) (gRel : Nat) (rx ry : Int) (unrefined : Bool) : Controller :=
  let g := clamp 4096 65535 (roundHalfUp (c.mods[sm].gain * gRel) 16384)
  let c := ({ c with
      phase := .fading sm im, direction := .forward, k := 0, fadeInUse := c.params.fade, unrefined := unrefined } :
      Controller).clearRects
  c.modModule im fun x => { x with gain := g, rx := rx, ry := ry }

/-- The end of a preparation whose counter has reached the limit: the unrefined fallback, or, where I has no READY
frame, abandonment with I barred (R99). -/
def prepareLimit (s : State) (a : Advance) (x : Staged) (sm im : ModuleId) : Staged :=
  match s.store.mods[im].newestRecord with
  | some fi =>
    let ratio := trailerRatio s.store.mods[sm].newestRecord (some fi)
    { ctl := enterFade x.ctl sm im ratio 0 0 true
      raised := x.raised ++ [a.event .handoffUnrefined im.val 0] }
  | none =>
    { ctl := (x.ctl.settle sm).modModule im fun y => { y with barred := true }
      raised := x.raised ++ [a.event .handoffAbandoned im.val reasonNoFrame] }

/-- A preparation continues: a success of the current generation begins the fade; otherwise the counter, and at the
limit the end of the preparation (R98). -/
def continuePreparation (s : State) (a : Advance) (x : Staged) (sm im : ModuleId) : Staged :=
  let counted : Staged :=
    let c := { x.ctl with prepareCounter := x.ctl.prepareCounter + 1 }
    if c.params.prepare ≤ c.prepareCounter then prepareLimit s a { x with ctl := c } sm im else { x with ctl := c }
  match s.reg.last with
  | none => counted
  | some r =>
    if r.succeeds x.ctl.generation then
      { x with ctl := enterFade x.ctl sm im r.gRel r.outcome.refinement.1 r.outcome.refinement.2 false }
    else counted

/-- The completion of a fade: I becomes S (R102). -/
def completeFade (a : Advance) (x : Staged) (sm im : ModuleId) (reason : Nat) : Staged :=
  { ctl := ((x.ctl.settle im).modModule sm .unity).modModule im (.takeOver x.ctl.params.relax)
    raised := x.raised ++ [a.event .handoffDone im.val reason] }

/-- The end of a fade that leaves S serving: I back at unity, HANDOFF_ABANDONED (R101 case 1, R102 return). -/
def leaveFade (a : Advance) (x : Staged) (sm im : ModuleId) (reason : Nat) : Staged :=
  { ctl := (x.ctl.settle sm).modModule im .unity
    raised := x.raised ++ [a.event .handoffAbandoned im.val reason] }

/-! ### Hand-off stage (R92, R93, R97, R101) -/

/-- STARVED (R92). -/
def starvedStage (isLost : ModuleId → Bool) (a : Advance) (x : Staged) (sm : Option ModuleId) : Staged :=
  let otherwise : Staged :=
    match x.ctl.candidate with
    | some m => cut a x m
    | none => x
  match sm with
  | some m => if isLost m then otherwise else { x with ctl := { x.ctl with phase := .steady m } }
  | none => otherwise

/-- STEADY (R93). -/
def steadyStage (s : State) (isLost : ModuleId → Bool) (a : Advance) (x : Staged) (sm : ModuleId) : Staged :=
  if isLost sm then giveWay a x sm
  else
    match x.ctl.candidate with
    | some m =>
      if m ≠ sm ∧ (outgrown x.ctl sm ∨ x.ctl.forced = some m) then { x with ctl := beginHandoff s a x.ctl sm m } else x
    | none => x

/-- PREPARING, the cases of R97 in their order. -/
def preparingStage (s : State) (isLost : ModuleId → Bool) (a : Advance) (x : Staged) (sm im : ModuleId) : Staged :=
  if isLost sm then
    if isLost im then giveWay a (x.raise (a.event .handoffAbandoned im.val reasonStale)) sm else cut a x im
  else if isLost im then
    ({ x with ctl := x.ctl.settle sm } : Staged).raise (a.event .handoffAbandoned im.val reasonStale)
  else
    match x.ctl.candidate with
    | none => { x with ctl := x.ctl.settle sm }
    | some m =>
      if m = sm then { x with ctl := x.ctl.settle sm }
      else if m = im then continuePreparation s a x sm im
      else { x with ctl := beginHandoff s a x.ctl sm m }

/-- FADING, the cases of R101 in their order. -/
def fadingStage (isLost : ModuleId → Bool) (a : Advance) (x : Staged) (sm im : ModuleId) : Staged :=
  if isLost im then leaveFade a x sm im reasonStale
  else if isLost sm then completeFade a x sm im reasonEarly
  else if x.ctl.direction = .forward ∧ inBand x.ctl sm ∧ x.ctl.candidate = some sm then
    { x with ctl := { x.ctl with direction := .returning } }
  else if x.ctl.direction = .returning ∧ ¬inBand x.ctl sm ∧ x.ctl.candidate = some im then
    { x with ctl := { x.ctl with direction := .forward } }
  else x

/-- All reset marks cleared, after they have been read (R90). -/
def Controller.clearMarks (c : Controller) : Controller :=
  { c with mods := mapAll (fun (x : ModuleComp) => { x with resetMark := false }) c.mods }

/-- The hand-off stage: the candidate is determined once, the marks are read and cleared, and the state changes by one
transition (R80, R87, R90). -/
def handoffStage (s : State) (a : Advance) (x : Staged) : Staged :=
  let isLost := lost s x.ctl
  let c := { x.ctl with candidate := candidateOf s x.ctl }
  let x := { x with ctl := c.clearMarks }
  match c.phase with
  | .starved sm => starvedStage isLost a x sm
  | .steady sm => steadyStage s isLost a x sm
  | .preparing sm im => preparingStage s isLost a x sm im
  | .fading sm im => fadingStage isLost a x sm im

/-! ### Level stage (R102, R103) -/

/-- Alpha at fade counter k of a fade of length n: k × 256 / n rounded to nearest (R102). -/
def fadeLevel (k n : Nat) : Nat := (512 * k + n) / (2 * n)

/-- One step of a fade, with its completion or return (R102). -/
def fadeStep (a : Advance) (x : Staged) (sm im : ModuleId) : Staged :=
  let k := match x.ctl.direction with
    | .forward => x.ctl.k + 1
    | .returning => x.ctl.k - 1
  let stepped := { x with ctl := { x.ctl with k := k, alpha := fadeLevel k x.ctl.fadeInUse } }
  match x.ctl.direction with
  | .forward => if x.ctl.fadeInUse ≤ k then completeFade a stepped sm im reasonFaded else stepped
  | .returning => if k = 0 then leaveFade a stepped sm im reasonReturned else stepped

/-- One relaxation step of a module (R103). The quotient is rounded, as the worked figures of 6.11 show (log 12). -/
def ModuleComp.relax (l : Nat) (x : ModuleComp) : ModuleComp :=
  if x.gain = 16384 then x
  else if l = 0 ∨ l ≤ x.relaxStep + 1 then { x with gain := 16384, relaxStep := l }
  else
    let j := x.relaxStep + 1
    { x with
      relaxStep := j
      gain := ((x.relaxStart : Int) + roundHalfAway ((16384 - (x.relaxStart : Int)) * j) l).toNat }

/-- Whether the hand-off stage left STEADY as it was: no cut, no hand-off begun (R87, R103). A cut from STEADY enters
STEADY anew, so it does not relax. -/
def staysSteady (s : State) (c : Controller) : Option ModuleId :=
  match c.phase with
  | .steady m => if lost s c m then none else some m
  | _ => none

/-- The level stage: in FADING the fade is stepped; in a STEADY that was STEADY before the hand-off stage, S's gain is
relaxed (R87). `before` is the serving module of a STEADY that the hand-off stage found not lost. -/
def levelStage (a : Advance) (before : Option ModuleId) (x : Staged) : Staged :=
  match x.ctl.phase with
  | .fading sm im => fadeStep a x sm im
  | .steady m => if before = some m then { x with ctl := x.ctl.modModule m (.relax x.ctl.params.relax) } else x
  | .starved _ => x
  | .preparing _ _ => x

/-! ### Publication and the advance (R87, R88) -/

/-- The composition state as it is published (R88). -/
def Controller.publication (c : Controller) : Published where
  phase := c.phase
  alpha := c.alpha
  direction := c.direction
  unrefined := c.unrefined
  frozen := c.frozen
  zq := c.zq
  field := c.field
  mods := mapAll (fun (x : ModuleComp) =>
    ({ gain := x.gain, rx := x.rx, ry := x.ry, calibration := x.calibration } : PublishedModule)) c.mods

/-- The composition state published (R87). -/
def Controller.publish (c : Controller) : Controller := { c with published := c.publication }

/-- The stages 1 to 4 of an advance, with their events in order (R87, R180). -/
def advanceStages (s : State) (a : Advance) : Staged :=
  let x := zoomStage a s.ctl.transfer
  levelStage a (staysSteady s x.ctl) (handoffStage s a x)

/-- A pacing advance: nothing while frozen; else the stages, the events, the publication and the snapshot (R87). -/
def State.advance (s : State) (a : Advance) : State :=
  if s.ctl.frozen then s
  else
    let x := advanceStages s a
    ({ s with ctl := x.ctl.publish } : State).raiseAll x.raised |>.writeSnapshot (.advance a.view a.frame)

end Sys2Proof.Machine
end

