-- ==== Sys2Proof/Machine/Compose.lean ====
section
/-! DEFINITION. The View Composer: output frames (R130 to R138), the view read table, source fetches, completion and failure
of reads (R145 to R155). -/

namespace Sys2Proof.Machine

/-! ### Reads in flight and closing (R129, R135) -/

/-- Whether a place of the table holds a read of an output frame. -/
def TableEntry.readsFrame (v : ViewId) (f : FrameName) (e : TableEntry) : Bool :=
  e.read.any fun r => r.view == v && r.frame == .record f

/-- The reads in flight on an output frame: its reads that are in the table (R129). -/
def State.inFlight (s : State) (v : ViewId) (f : FrameName) : Nat :=
  s.comp.table.toList.countP (TableEntry.readsFrame v f)

/-- The close of an output frame: its holder is removed and its record becomes free (R135). -/
def State.closeFrame (s : State) (v : ViewId) (f : FrameName) : State :=
  (s.unholdAll (.frame v f)).modView v fun w => w.setFrame f none

/-- Whether a record holds a DRAINING output frame. -/
def View.isDraining (w : View) (f : FrameName) : Bool := (w.frame f).elim false (·.status == .draining)

/-- Closes a DRAINING output frame that has no reads in flight (R135). -/
def State.closeIfDrained (s : State) (v : ViewId) (f : FrameName) : State :=
  if s.comp.views[v].isDraining f && s.inFlight v f == 0 then s.closeFrame v f else s

/-- Whether a view has a DRAINING output frame with reads in flight, for which a header read waits (R131). -/
def State.drainBlocked (s : State) (v : ViewId) : Bool :=
  (s.comp.views[v].isDraining .a && s.inFlight v .a != 0) || (s.comp.views[v].isDraining .b && s.inFlight v .b != 0)

/-! ### Opening an output frame (R132 to R137) -/

/-- The second module of an output frame: I when the latched state is FADING (R133). -/
def Phase.second : Phase → Option ModuleId
  | .fading _ i => some i
  | .starved _ => none
  | .steady _ => none
  | .preparing _ _ => none

/-- Pins a source frame: the newest, or while frozen the one under the freeze holder (R133). -/
def State.pin (s : State) (frozen : Bool) (m : ModuleId) (x : Holder) : State × Option Nat :=
  if frozen then s.pinFrozen m x else s.pinNewest m x

/-- The part of a module in an output frame, from its pinned slot and the latched composition (R134, R64 to R71). -/
def makePart (s : State) (w : View) (latched : Published) (m : ModuleId) (slot : Option Nat) : Part :=
  let pm := latched.mods[m]
  let cal := pm.calibration
  let pinned := slot.bind fun i => s.store.mods[m].slots[i]?
  let rec? := pinned.bind Slot.record
  let focus := rec?.elim 0 (·.focus)
  let p : Part :=
    { module := m
      slot := slot
      base := pinned.elim 0 (·.base)
      frame := rec?.elim 0 (·.frame)
      midpoint := rec?.elim 0 (·.midpoint)
      focus := focus
      gain := pm.gain
      ox := if slot.isSome then 4096 * parallax (·.dx) cal.parallax focus + pm.rx else 0
      oy := if slot.isSome then 4096 * parallax (·.dy) cal.parallax focus + pm.ry else 0
      step := stepOf latched.field.width cal.scale latched.zq w.width
      stepClamped := stepClampedOf latched.field.width cal.scale latched.zq w.width
      coverageFailed := false
      cx := cal.cx
      cy := cal.cy
      width := s.trackers[m].record.width
      height := s.trackers[m].record.height
      stride := s.trackers[m].record.stride }
  { p with coverageFailed := slot.isSome && p.failsCoverage w }

/-- Pins and sets up the part of a module, if the output frame involves one (R133, R134). -/
def State.openPart (s : State) (v : ViewId) (latched : Published) (x : Holder) (m : Option ModuleId) :
    State × Option Part :=
  match m with
  | none => (s, none)
  | some m =>
    let r := s.pin latched.frozen m x
    (r.1, some (makePart r.1 r.1.comp.views[v] latched m r.2))

/-- The record the next output frame of a view takes: A when none is alive, else the one no living output frame uses
(R130). -/
def View.nextName (w : View) : FrameName := if w.frameA.isNone then .a else .b

/-- The other record. -/
def FrameName.other : FrameName → FrameName
  | .a => .b
  | .b => .a

/-- An OPEN output frame becomes DRAINING (R132, step 6). -/
def OutputFrame.drain (o : OutputFrame) : OutputFrame := { o with status := .draining }

/-- Step 6 of an open: the output frame that was OPEN becomes DRAINING, and closes if it has no reads in flight. -/
def State.drainOld (s : State) (v : ViewId) (old : FrameName) : State :=
  if s.comp.views[v].isOpen old then
    (s.modView v fun w => w.setFrame old ((w.frame old).map OutputFrame.drain)).closeIfDrained v old
  else s

/-- Steps 1 and 2 of an open: the counter, "opened since enable", and the advance if the view is pacing (R132). -/
def State.beginOpen (s : State) (v : ViewId) : State :=
  let n := s.comp.views[v].counter + 1
  let s' := s.modView v fun w => { w with counter := n, openedSinceEnable := true }
  if s.pacingView = some v then s'.advance { view := v, frame := n } else s'

/-- The event of step 7: COVERAGE (R132). -/
def coverageRaise (v : ViewId) (n : Word) : Raise where
  kind := .coverage
  subject := v.val
  second := 0
  frame := n
  reason := 0

/-- The opening of an output frame, steps 1 to 7, but for the header read's answer, which the caller places (R132). -/
def State.openFrame (s : State) (v : ViewId) : State :=
  let s := s.beginOpen v
  let latched := s.ctl.published
  let n := s.comp.views[v].counter
  let name := s.comp.views[v].nextName
  let r1 := s.openPart v latched (.frame v name) latched.phase.serving
  let r2 := r1.1.openPart v latched (.frame v name) latched.phase.second
  let flags := headerFlags latched r1.2 r2.2
  let frame : OutputFrame :=
    { status := .opened, number := n, latched := latched, serving := r1.2, second := r2.2, flags := flags }
  let s := (r2.1.modView v fun w => w.setFrame name (some frame)).drainOld v name.other
  if flags.coverage then s.raise (coverageRaise v n) else s

/-! ### Entries of the view read table (R145 to R149) -/

/-- Changes one place of the table. -/
def State.modEntry (s : State) (e : EntryId) (f : TableEntry → TableEntry) : State :=
  { s with comp := { s.comp with table := upd s.comp.table e f } }

/-- An entry becomes free; its use tag stays (R145). -/
def State.freeEntry (s : State) (e : EntryId) : State := s.modEntry e fun x => { x with read := none }

/-- The lowest-numbered free entry (R146). -/
def State.freeEntryId (s : State) : Option EntryId := allEntries.find? fun e => s.comp.table[e].read.isNone

/-- Issues waiting fetches of an entry while fewer than 64 are outstanding, at most `fuel` of them; each takes the next
serial number as its identity and the deadline time count plus fetch timeout (R149). -/
def ReadEntry.issue (t : Time) (timeout : Nat) : Nat → Nat → ReadEntry → ReadEntry × Nat
  | 0, serial, r => (r, serial)
  | fuel + 1, serial, r =>
    match r.toIssue with
    | [] => (r, serial)
    | x :: xs =>
      if r.outstanding.length < 64 then
        ReadEntry.issue t timeout fuel (serial + 1)
          { r with
            outstanding := r.outstanding ++ [{ id := serial, spec := x, deadline := laterBy serial t timeout }]
            toIssue := xs }
      else (r, serial)

/-- Issues waiting fetches of an entry in the table. -/
def State.issueFetches (s : State) (e : EntryId) (r : ReadEntry) (fuel : Nat) : State :=
  let p := r.issue s.time s.comp.views[r.view].timeout fuel s.serial
  { (s.modEntry e fun x => { x with read := some p.1 }) with serial := p.2 }

/-- A PIXEL read begins on an open output frame: it forms its fetch set and issues it; an empty set makes it COMPLETE
(R147, R148, R149). -/
def State.beginFetch (s : State) (e : EntryId) (r : ReadEntry) (f : FrameName) (o : OutputFrame) : State :=
  match fetchSet s.comp.views[r.view] o r.offset r.len with
  | [] => s.modEntry e fun x => { x with read := some { r with frame := .record f, state := .complete } }
  | x :: xs => s.issueFetches e { r with frame := .record f, state := .fetching, toIssue := x :: xs } 64

/-- Puts a place among places in increasing order. -/
def insertPlace (p : Nat × EntryId) : List (Nat × EntryId) → List (Nat × EntryId)
  | [] => [p]
  | x :: xs => if p.1 ≤ x.1 then p :: x :: xs else x :: insertPlace p xs

/-- The entries whose read passes a test, in the order they were accepted. -/
def State.entriesWith (s : State) (test : ReadEntry → Bool) : List (Nat × EntryId) :=
  (allEntries.filterMap fun e => s.comp.table[e].read.bind fun r => if test r then some (r.place, e) else none).foldr
    insertPlace []

/-- Whether a read is a header read of a view that has not opened its output frame. -/
def ReadEntry.isWaitingHeader (v : ViewId) (r : ReadEntry) : Bool :=
  r.view == v && r.kind == .header && r.offset == 0 && r.state == .waitingOpen

/-- The answer places of the header reads of a view that wait, in the order they were accepted (R131). -/
def State.waitingHeaders (s : State) (v : ViewId) : List Nat :=
  (s.entriesWith (ReadEntry.isWaitingHeader v)).map (·.1)

/-- An entry leaves WAITING_OPEN at the open of its output frame: a HEADER read is answered and leaves the table, a PIXEL
read begins its fetches (R147). -/
def State.releaseEntry (f : FrameName) (o : OutputFrame) (s : State) (e : EntryId) : State :=
  match s.comp.table[e].read with
  | none => s
  | some r =>
    match r.kind with
    | .pixel => s.beginFetch e r f o
    | .header => (s.answer r.place (.ok (headerPage o r.offset r.len))).freeEntry e
    | .empty => s

/-- Every entry that belongs to the output frame of the header read at `place` leaves WAITING_OPEN, in the order of
acceptance (R147). -/
def State.releaseWaiting (s : State) (v : ViewId) (place : Nat) (f : FrameName) (o : OutputFrame) : State :=
  ((s.entriesWith fun r => r.view == v && r.frame == .awaiting place).map (·.2)).foldl (State.releaseEntry f o) s

/-- A waiting header read opens its output frame (R131, R132, R147). -/
def State.openHeader (s : State) (v : ViewId) (place : Nat) : State :=
  let s := s.openFrame v
  match s.comp.views[v].openName with
  | none => s
  | some f =>
    match s.comp.views[v].frame f with
    | none => s
    | some o => s.releaseWaiting v place f o

/-- The header reads that wait open one after another while no DRAINING output frame with reads in flight remains
(R131). -/
def openWaiting (v : ViewId) : List Nat → State → State
  | [], s => s
  | p :: ps, s => if s.drainBlocked v then s else openWaiting v ps (s.openHeader v p)

/-- What follows when a read of a view has left the table: a drained output frame closes, and waiting header reads may
open (R151, steps 3 and 4). -/
def State.afterLeave (s : State) (v : ViewId) : State :=
  let s := (s.closeIfDrained v .a).closeIfDrained v .b
  openWaiting v (s.waitingHeaders v) s

/-! ### Acceptance of a view read (R129, R146) -/

/-- A read as it takes an entry. -/
def newRead (req : Byte) (place : Nat) (v : ViewId) (kind : ReadKind) (offset len : Nat) (frame : FrameRef)
    (state : ReadState) : ReadEntry where
  requester := req
  place := place
  view := v
  kind := kind
  offset := offset
  len := len
  frame := frame
  state := state
  outstanding := []
  toIssue := []
  source := []

/-- The entry taken: its use tag increased by 1, continuing from 0 after 255 (R146). -/
def State.takeTag (s : State) (e : EntryId) : State := s.modEntry e fun x => { x with tag := x.tag + 1 }

/-- A read put into its entry. -/
def State.putRead (s : State) (e : EntryId) (r : ReadEntry) : State := s.modEntry e fun x => { x with read := some r }

/-- VIEW_UNOPENED, once per enable (R143). -/
def State.reportUnopened (s : State) (v : ViewId) : State :=
  if s.comp.views[v].unopenedReported then s
  else
    (s.modView v fun w => { w with unopenedReported := true }).raise
      { kind := .viewUnopened, subject := v.val, second := 0, frame := s.comp.views[v].counter, reason := 0 }

/-- An EMPTY read: answered at once, black or zero (R143). -/
def State.answerEmpty (s : State) (v : ViewId) (place offset len : Nat) : State :=
  (s.answer place (.ok (emptyAnswer s.comp.views[v] offset len))).reportUnopened v

/-- The kind of a view read by its offset (R129). -/
def kindAt (offset : Nat) : ReadKind := if offset < 4096 then .header else .pixel

/-- A header read at its acceptance: it opens its output frame, or waits (R131, R146). -/
def State.acceptHeader (s : State) (req : Byte) (e : EntryId) (v : ViewId) (place len : Nat) : State :=
  if s.waitingHeaders v = [] ∧ s.drainBlocked v = false then
    let s := s.openFrame v
    match s.comp.views[v].openName.bind s.comp.views[v].frame with
    | some o => s.answer place (.ok (headerPage o 0 len))
    | none => s
  else s.putRead e (newRead req place v .header 0 len (.awaiting place) .waitingOpen)

/-- A read that belongs to the OPEN output frame: header bytes at once, or the fetches begin (R146). -/
def State.acceptOnOpen (s : State) (req : Byte) (e : EntryId) (v : ViewId) (place offset len : Nat) : State :=
  match s.comp.views[v].openName with
  | none => s.answerEmpty v place offset len
  | some f =>
    match s.comp.views[v].frame f with
    | none => s.answerEmpty v place offset len
    | some o =>
      if offset < 4096 then s.answer place (.ok (headerPage o offset len))
      else s.beginFetch e (newRead req place v .pixel offset len (.record f) .fetching) f o

/-- A read of class V-v accepted at answer place `place`: it takes the lowest free entry, is sorted into a kind, and starts
as its kind and the view's condition decide (R129, R146). -/
def State.acceptViewRead (s : State) (req : Byte) (v : ViewId) (place offset len : Nat) : State :=
  match s.freeEntryId with
  | none => s
  | some e =>
    let s := s.takeTag e
    if offset = 0 then s.acceptHeader req e v place len
    else
      match (s.waitingHeaders v).getLast? with
      | some p => s.putRead e (newRead req place v (kindAt offset) offset len (.awaiting p) .waitingOpen)
      | none =>
        if s.comp.views[v].openedSinceEnable then s.acceptOnOpen req e v place offset len
        else s.answerEmpty v place offset len

/-! ### Answers to fetches, completion and failure (R150 to R155) -/

/-- The fetches of an entry, marked withdrawn (R152, R155). -/
def withdraw (e : EntryId) (tag : Byte) (r : ReadEntry) : List Withdrawn :=
  r.outstanding.map fun f => { entry := e, tag := tag, id := f.id }

/-- The number of the output frame a read belongs to (R152). -/
def State.frameNumber (s : State) (r : ReadEntry) : Word :=
  match r.frame with
  | .record f => (s.comp.views[r.view].frame f).elim 0 (·.number)
  | .awaiting _ => 0

/-- The failure of an entry: an error answer, FETCH_ERROR, the entry free with its fetches withdrawn, and the output frame
and waiting header reads dealt with (R152). -/
def State.failEntry (s : State) (e : EntryId) (r : ReadEntry) (m : ModuleId) (reason : Nat) : State :=
  let tag := s.comp.table[e].tag
  let s := (s.answer r.place .error).raise
    { kind := .fetchError, subject := r.view.val, second := m.val, frame := s.frameNumber r, reason := reason }
  let s := s.freeEntry e
  let s := { s with comp := { s.comp with withdrawn := s.comp.withdrawn ++ withdraw e tag r } }
  s.afterLeave r.view

/-- A late answer: the Composer discards it, and the withdrawn fetch it ends leaves the port (R154). -/
def State.lateAnswer (s : State) (id : Nat) : State :=
  { s with comp := { s.comp with withdrawn := s.comp.withdrawn.filter (·.id != id) } }

/-- A read with one fetch answered: it is outstanding no more (R145). -/
def ReadEntry.drop (r : ReadEntry) (f : Fetch) : ReadEntry := { r with outstanding := r.outstanding.filter (·.id != f.id) }

/-- A read with one fetch answered with data (R150). -/
def ReadEntry.receive (r : ReadEntry) (f : Fetch) (p : Payload) : ReadEntry :=
  { r.drop f with
    source := r.source ++
      [{ second := f.spec.second, row := f.spec.row, col := f.spec.col, words := fetchWords f.spec p }] }

/-- A read with nothing outstanding and nothing to issue is COMPLETE (R150). -/
def ReadEntry.settle (r : ReadEntry) : ReadEntry :=
  if r.outstanding.isEmpty && r.toIssue.isEmpty then { r with state := .complete } else r

/-- A matched answer with data: its words are kept, and a fetch that waited is issued in its place; with none left the
entry becomes COMPLETE (R149, R150). -/
def State.receiveFetch (s : State) (e : EntryId) (r : ReadEntry) (f : Fetch) (p : Payload) : State :=
  s.issueFetches e (r.receive f p).settle 1

/-- A fetch answer: taken by the entry in use, FETCHING, with the same use tag and this fetch outstanding; any other is
late (R150, R154). An error fails the entry, whose other fetches alone are still outstanding then (R152). -/
def State.fetchAnswer (s : State) (e : EntryId) (tag : Byte) (id : Nat) (a : MemAnswer) : State :=
  match s.comp.table[e].read with
  | none => s.lateAnswer id
  | some r =>
    if s.comp.table[e].tag = tag ∧ r.state = .fetching then
      match r.outstanding.find? (·.id == id) with
      | none => s.lateAnswer id
      | some f =>
        match a with
        | .data p => s.receiveFetch e r f p
        | .error => s.failEntry e (r.drop f) f.spec.module reasonError
    else s.lateAnswer id

/-- The earliest deadline of outstanding fetches, absent when none is outstanding (R145). -/
def earliest (fs : List Fetch) : Option Time :=
  fs.foldl (fun best f => match best with
    | none => some f.deadline
    | some d => if f.deadline.toNat < d.toNat then some f.deadline else some d) none

/-- The module a timeout names: that of an outstanding fetch with the earliest deadline, S before I (R153). -/
def timedOutModule (fs : List Fetch) (d : Time) : Option ModuleId :=
  match fs.find? fun f => f.deadline == d && !f.spec.second with
  | some f => some f.spec.module
  | none => (fs.find? fun f => f.deadline == d).map (·.spec.module)

/-- The timeout of an entry: where the time count has reached the earliest deadline of a FETCHING entry, it fails
(R153). -/
def State.fetchTimeout (s : State) (e : EntryId) : State :=
  match s.comp.table[e].read with
  | none => s
  | some r =>
    if r.state = .fetching then
      match earliest r.outstanding with
      | none => s
      | some d =>
        if d.toNat ≤ s.time.toNat then
          match timedOutModule r.outstanding d with
          | none => s
          | some m => s.failEntry e r m reasonTimeout
        else s
    else s

/-- The completion of a COMPLETE entry: the answer, the entry free, then what follows (R151). -/
def State.completeRead (s : State) (e : EntryId) : State :=
  match s.comp.table[e].read with
  | none => s
  | some r =>
    match r.state, r.frame with
    | .complete, .record f =>
      match s.comp.views[r.view].frame f with
      | none => s
      | some o =>
        let bytes := pixelAnswer s.comp.views[r.view] o r.source r.offset r.len
        ((s.answer r.place (.ok bytes)).freeEntry e).afterLeave r.view
    | _, _ => s

/-- Every fetch outstanding in the table, as a reset withdraws them (R155). -/
def Composer.allWithdrawn (c : Composer) : List Withdrawn :=
  c.withdrawn ++ (allEntries.map fun e => c.table[e].read.elim [] (withdraw e c.table[e].tag)).flatten

/-- The Composer after a reset: no output frame, every entry free with tag 0, every outstanding fetch withdrawn (R144,
R155). -/
def Composer.clear (c : Composer) : Composer := { Composer.reset with withdrawn := c.allWithdrawn }

/-- Whether a place of the queue is that of a read in the table. -/
def Composer.holdsPlace (c : Composer) (place : Nat) : Bool :=
  c.table.toList.any fun e => e.read.any (·.place == place)

/-- RESET_ALL answers every read of the table with an error (R155). -/
def State.failReads (s : State) : State :=
  { s with
    path :=
      { s.path with
        queue := s.path.queue.map fun q => if s.comp.holdsPlace q.place then { q with answer := some .error } else q } }

end Sys2Proof.Machine
end

