-- ==== Sys2Proof/Machine/Commands.lean ====
section
/-! DEFINITION. What each command of the command cell does to the block, and the reply it ends with (R34 to R37, R49 to R61,
R74, R84, R85, R104, R106, R107, R126 to R128, R165, R166). The Agent's part, BUSY, status record and snapshot, is in
Agent.lean. -/

namespace Sys2Proof.Machine

/-! ### Extents and the window check (R2, R4, R5) -/

/-- Whether two extents share a byte. -/
def Extent.overlaps (a b : Extent) : Bool :=
  decide (0 < a.size) && decide (0 < b.size) && decide (a.start < b.start + b.size)
    && decide (b.start < a.start + a.size)

/-- Whether an address lies in an extent. -/
def Extent.contains (e : Extent) (a : Nat) : Bool := decide (e.start ≤ a) && decide (a < e.start + e.size)

/-- Whether every byte of an extent lies in the carve-out; the arithmetic is exact (R4). -/
def insideCarve (cfg : Config) (start size : Nat) : Bool :=
  decide (size = 0) || (decide (cfg.carveBase ≤ start) && decide (start + size ≤ cfg.carveBase + cfg.carveSize))

/-- The extent of a window entry that is CONFIGURED or ACTIVE. -/
def Window.extent : Window → Option Extent
  | .unconfigured => none
  | .configured e => some e
  | .active e => some e

/-- ENABLE of the owning module or view: CONFIGURED becomes ACTIVE (R3). -/
def Window.activate : Window → Window
  | .unconfigured => .unconfigured
  | .configured e => .active e
  | .active e => .active e

/-- DISABLE of the owning module or view: ACTIVE becomes CONFIGURED, start and size kept (R3). -/
def Window.deactivate : Window → Window
  | .unconfigured => .unconfigured
  | .configured e => .configured e
  | .active e => .configured e

/-- P: height × stride rounded up to a multiple of 4096 (R2). -/
def pixelArea (height stride : Nat) : Nat := pageUp (height * stride)

/-- The control page (R2). -/
def controlExtent (cfg : Config) : Extent where
  start := cfg.controlPage
  size := 4096

/-- The configured windows with their indices: C-m is m, V-v is 4 + v (R175). -/
def State.windows (s : State) : List (Nat × Extent) :=
  (allModules.filterMap fun m => s.path.captureWindows[m].extent.map fun e => (m.val, e))
    ++ allViews.filterMap fun v => s.path.viewWindows[v].extent.map fun e => (4 + v.val, e)

/-- The extents of the loaded slots of one module, with their slot table entries 8m + s. -/
def State.slotExtentsOf (s : State) (m : ModuleId) : List (Nat × Extent) :=
  s.store.mods[m].slots.mapIdx fun i x => (8 * m.val + i, x.extent)

/-- The extents of the loaded slots of every module but the one excepted. -/
def State.slotExtents (s : State) (but : Option ModuleId) : List (Nat × Extent) :=
  (allModules.map fun m => if but = some m then [] else s.slotExtentsOf m).flatten

/-- The first of the extents of R5 that a new window overlaps, in the order of that list: what was hit (0 window,
1 control page, 2 slot) and its index (R175). -/
def State.overlapHit (s : State) (index : Nat) (but : Option ModuleId) (e : Extent) : Option (Nat × Nat) :=
  match s.windows.find? fun x => x.1 != index && e.overlaps x.2 with
  | some x => some (0, x.1)
  | none =>
    if e.overlaps (controlExtent s.cfg) then some (1, 0)
    else ((s.slotExtents but).find? fun x => e.overlaps x.2).map fun x => (2, x.1)

/-- The Memory Path's check of a new window: none where it passes (R4, R5). -/
def State.windowRefusal (s : State) (index : Nat) (but : Option ModuleId) (e : Extent) : Option Reply :=
  if insideCarve s.cfg e.start e.size then
    (s.overlapHit index but e).map fun h => { outcome := .overlap, d0 := index, d1 := h.1, d2 := h.2 }
  else some (.one .outOfCarve index)

/-- A command's end: the state and the reply. -/
abbrev Ended := State × Reply

/-- A refusal: nothing changes (2.8, R158). -/
def refuse (s : State) (o : OutcomeCode) : Ended := (s, .plain o)

/-- A refusal that names a field by its offset, or another detail value. -/
def refuseWith (s : State) (o : OutcomeCode) (d : Nat) : Ended := (s, .one o d)

/-- DONE without detail. -/
def done (s : State) : Ended := (s, .plain .done)

/-! ### Module commands (2.8) -/

/-- The first field of CONFIGURE_MODULE out of range, by its offset in the command cell (R34, R174). -/
def moduleRange (owner width height stride staleLimit : Nat) : Option Nat :=
  if 255 < owner then some 8
  else if width < 64 ∨ 8192 < width then some 12
  else if height < 64 ∨ 6144 < height then some 16
  else if stride % 64 ≠ 0 ∨ stride < 4 * width ∨ 32768 < stride then some 20
  else if staleLimit < 1000 ∨ 1000000 < staleLimit then some 32
  else none

/-- The module as CONFIGURE_MODULE leaves it (R34). -/
def Tracker.configure (t : Tracker) (owner : Byte) (width height stride staleLimit : Nat) : Tracker :=
  { t with
    record :=
      { t.record with
        configured := true, owner := owner, width := width, height := height, stride := stride, staleLimit := staleLimit } }

/-- CONFIGURE_MODULE (R34). -/
def cmdConfigureModule (m owner width height stride : Word) (start : Addr) (staleLimit : Word) (s : State) : Ended :=
  match moduleArg s.cfg m with
  | none => refuse s .badArgument
  | some i =>
    match moduleRange owner.toNat width.toNat height.toNat stride.toNat staleLimit.toNat with
    | some field => refuseWith s .badArgument field
    | none =>
      if s.trackers[i].record.enabled then refuse s .inUse
      else
        let e : Extent := { start := pageDown start.toNat, size := pixelArea height.toNat stride.toNat + 4096 }
        match s.windowRefusal i.val (some i) e with
        | some r => (s, r)
        | none =>
          let s := s.modTracker i
            (·.configure (owner.setWidth 8) width.toNat height.toNat stride.toNat staleLimit.toNat)
          let s := { s with path := { s.path with captureWindows := s.path.captureWindows.set i (.configured e) } }
          done (s.emptySlots i)

/-- The module as ENABLE_MODULE leaves it (R35). -/
def Tracker.enable (t : Tracker) : Tracker where
  record := { t.record with enabled := true, lastTrailer := 0 }
  capture := .idle
  deadline := none

/-- ENABLE_MODULE (R35); it clears the bar (R82). Of a module already enabled it changes nothing, as R35 says; that a bar
then stays, though R82 has an ENABLE_MODULE taken clear it, is the model's choice (log 30). -/
def cmdEnableModule (m : Word) (s : State) : Ended :=
  match moduleArg s.cfg m with
  | none => refuse s .badArgument
  | some i =>
    if s.trackers[i].record.enabled then done s
    else if !s.trackers[i].record.configured || s.store.mods[i].slots.isEmpty then refuse s .notConfigured
    else
      let s := s.modTracker i Tracker.enable
      let s := { s with path := { s.path with captureWindows := upd s.path.captureWindows i Window.activate } }
      done (s.modCtl fun c => c.modModule i fun x => { x with barred := false })

/-- The fill slot of a capture state. -/
def Capture.fillSlot : Capture → Option Nat
  | .filling i _ => some i
  | .disabled => none
  | .idle => none
  | .discarding => none

/-- The fill slot of an open frame is returned FREE, if there is one (R45); the accumulator goes with the capture
state. -/
def State.returnFill (s : State) (m : ModuleId) : State :=
  s.modSlots m fun ms => s.trackers[m].capture.fillSlot.elim ms ms.giveBack

/-- Whether a module is S in any hand-off state, or I while PREPARING or FADING (R36). -/
def Phase.uses (p : Phase) (m : ModuleId) : Bool := p.serving == some m || p.incoming == some m

/-- Whether some slot of a module has a holder (R36). -/
def ModuleSlots.anyHeld (ms : ModuleSlots) : Bool := ms.slots.any fun s => !HolderSet.isEmpty s.holders

/-- The module as DISABLE_MODULE leaves it (R36). -/
def Tracker.disable (t : Tracker) : Tracker where
  record := { t.record with enabled := false }
  capture := .disabled
  deadline := none

/-- DISABLE_MODULE (R36). -/
def cmdDisableModule (m : Word) (s : State) : Ended :=
  match moduleArg s.cfg m with
  | none => refuse s .badArgument
  | some i =>
    if !s.trackers[i].record.enabled then done s
    else if s.ctl.phase.uses i || s.store.mods[i].anyHeld then refuse s .inUse
    else
      let s := ((s.returnFill i).emptySlots i).modTracker i Tracker.disable
      done { s with path := { s.path with captureWindows := upd s.path.captureWindows i Window.deactivate } }

/-- The module as RESET_MODULE leaves it: IDLE and STALE, the last trailer number kept (R37). -/
def Tracker.restart (t : Tracker) : Tracker := { t with capture := .idle, deadline := none }

/-- What the Controller keeps for a module after RESET_MODULE: unity gain and no relaxation, zero refinement, no
rectangle, the reset mark set (R37, R89, R90). -/
def ModuleComp.resetModule (x : ModuleComp) : ModuleComp :=
  { x with gain := 16384, relaxStart := 16384, relaxStep := 0, rx := 0, ry := 0, rect := none, resetMark := true }

/-- RESET_MODULE (R37, R48, R122). -/
def cmdResetModule (m : Word) (s : State) : Ended :=
  match moduleArg s.cfg m with
  | none => refuse s .badArgument
  | some i =>
    if !s.trackers[i].record.enabled then refuse s .notEnabled
    else
      let s := ((s.returnFill i).modSlots i ModuleSlots.purge).modTracker i Tracker.restart
      let s := s.modCtl fun c => c.modModule i ModuleComp.resetModule
      done { s with reg := s.reg.cancel i }

/-! ### The progress of a command in flight (R50, R55, R61, R161) -/

/-- The progress with `n` accesses issued by now, or as many as there are; what is issued stays issued. -/
def Progress.issueTo (p : Progress) (n : Nat) : Progress := { p with issued := max p.issued (min n p.answers.length) }

/-- Whether an event's answer to access j is new: the event brings one, and the access is issued and not yet answered. -/
def Progress.fresh {n : Nat} (p : Progress) (a : AccessAnswers n) (j : Nat) : Bool :=
  a.which.getLsbD j && decide (j < p.issued) && p.answers[j]? == some none

/-- The first access that an event answers with an error (R50, R55, R61). -/
def Progress.firstFailed {n : Nat} (p : Progress) (a : AccessAnswers n) : Option Nat :=
  (List.range p.answers.length).find? fun j => p.fresh a j && a.errs.getLsbD j

/-- The progress with the answers of an event noted: access j brings the 8 bytes of `buf` from 8j; a write brings none. -/
def Progress.receive {n : Nat} (p : Progress) (a : AccessAnswers n) (buf : List Byte) : Progress :=
  { p with answers := p.answers.mapIdx fun j x => if p.fresh a j then some ((buf.drop (8 * j)).take 8) else x }

/-- Whether memory has answered every access. -/
def Progress.complete (p : Progress) : Bool := p.answers.all Option.isSome

/-- The bytes that the answered accesses brought, in the order of the accesses. -/
def Progress.bytes (p : Progress) : List Byte := (p.answers.map fun a => a.getD []).flatten

/-- Memory's answer to write j after an event's answers: none, or whether it was an error. -/
def Progress.mark {n : Nat} (p : Progress) (a : AccessAnswers n) (j : Nat) : Option Bool :=
  if p.fresh a j then some (a.errs.getLsbD j) else (p.answers[j]?.bind id).map fun _ => false

/-! ### Slot commands (3.7 to 3.9) -/

/-- A time-taking command at its trigger: it ends at once with a reply, or becomes the command in flight (R161). -/
inductive Triggered where
  | ended (r : Reply)
  | started (op : InFlightOp)
deriving DecidableEq, Repr

/-- LOAD_SLOTS at its trigger: the checks of R49. -/
def trigLoadSlots (m : Word) (buffer : Addr) (countLess1 : Word) (s : State) : Triggered :=
  match moduleArg s.cfg m with
  | none => .ended (.one .badArgument 4)
  | some i =>
    if countLess1.toNat = 0 ∨ 7 < countLess1.toNat then .ended (.one .badArgument 16)
    else if !s.trackers[i].record.configured then .ended (.plain .notConfigured)
    else if s.trackers[i].record.enabled then .ended (.plain .inUse)
    else if insideCarve s.cfg buffer.toNat (8 * (countLess1.toNat + 1)) then
      .started (.loadSlots i buffer.toNat (countLess1.toNat + 1))
    else .ended (.plain .outOfCarve)

/-- The base of entry j of a slot buffer, its low 12 bits dropped (R50, R179). -/
def slotBase (buf : List Byte) (j : Nat) : Nat := pageDown (fieldAt buf (8 * j) 8)

/-- The extents of the first `n` entries of a slot buffer. -/
def bufferExtents (buf : List Byte) (n size : Nat) : List Extent :=
  (List.range n).map fun j => { start := slotBase buf j, size := size }

/-- The check of one entry of a slot buffer against the carve-out, the windows, the control page, the other modules'
slots, and the entries before it (R50). -/
def State.slotRefusal (s : State) (m : ModuleId) (before : List Extent) (e : Extent) : Option OutcomeCode :=
  if !insideCarve s.cfg e.start e.size then some .outOfCarve
  else if (s.windows.any fun x => e.overlaps x.2) || e.overlaps (controlExtent s.cfg)
      || ((s.slotExtents (some m)).any fun x => e.overlaps x.2) || (before.any fun x => e.overlaps x) then
    some .overlap
  else none

/-- The first entry of a slot buffer that fails, with its outcome; entries are checked in index order (R50). -/
def State.firstRefusal (s : State) (m : ModuleId) (before : List Extent) : List Extent → Option (OutcomeCode × Nat)
  | [] => none
  | e :: es =>
    match s.slotRefusal m before e with
    | some o => some (o, before.length)
    | none => State.firstRefusal s m (before ++ [e]) es

/-- The end of LOAD_SLOTS with the bytes its reads brought: the checks in order; then the whole list is installed
(R50). -/
def endLoadSlots (m : ModuleId) (n : Nat) (buf : List Byte) (s : State) : Ended :=
  let size := pixelArea s.trackers[m].record.height s.trackers[m].record.stride
  let es := bufferExtents buf n size
  match s.firstRefusal m [] es with
  | some (o, j) => refuseWith s o j
  | none =>
    let loaded : ModuleSlots := { ModuleSlots.empty with slots := es.map fun e => Slot.loaded e.start e.size }
    (s.modSlots m fun _ => loaded, .one .done n)

/-- The lowest-numbered unused hold ticket (R52). -/
def ModuleSlots.freeTicket (ms : ModuleSlots) : Option (Fin 2) :=
  if ms.tickets[(0 : Fin 2)].isNone then some 0 else if ms.tickets[(1 : Fin 2)].isNone then some 1 else none

/-- HOLD_FRAME (R52). -/
def cmdHoldFrame (m : Word) (s : State) : Ended :=
  match moduleArg s.cfg m with
  | none => refuse s .badArgument
  | some i =>
    match s.store.mods[i].newest with
    | none => refuse s .noFrame
    | some slot =>
      match s.store.mods[i].freeTicket with
      | none => refuse s .holdLimit
      | some t =>
        (s.modSlots i fun ms => { (ms.hold slot (.ticket t)) with tickets := ms.tickets.set t (some slot) },
          { outcome := .done, d0 := slot, d1 := t.val, d2 := 0 })

/-- RELEASE_HOLD (R53). -/
def cmdReleaseHold (m ticket : Word) (s : State) : Ended :=
  match moduleArg s.cfg m with
  | none => refuse s .badArgument
  | some i =>
    if h : ticket.toNat < 2 then
      let t : Fin 2 := ⟨ticket.toNat, h⟩
      match s.store.mods[i].tickets[t] with
      | none => refuse s .badArgument
      | some slot =>
        (s.modSlots i fun ms =>
            { ms with slots := ms.slots.modify slot (·.unhold (.ticket t)), tickets := ms.tickets.set t none },
          .one .done slot)
    else refuse s .badArgument

/-- DUMP_SLOTS at its trigger: its checks, and the snapshot of the module's slots (R54). -/
def trigDumpSlots (m : Word) (buffer : Addr) (s : State) : Triggered :=
  match moduleArg s.cfg m with
  | none => .ended (.plain .badArgument)
  | some i =>
    let slots := s.store.mods[i].slots
    if !insideCarve s.cfg buffer.toNat (32 * slots.length) then .ended (.plain .outOfCarve)
    else if slots.isEmpty then .ended (.plain .done)
    else .started (.dumpSlots i buffer.toNat (slots.map dumpEntry))

/-- The writes of the first `n` entries of a dump: entry j at buffer + 32j (R55), with memory's answer as `mark` says. -/
def dumpWritesOf (buffer : Nat) (entries : List (List Byte)) (n : Nat) (mark : Nat → Option Bool) : List OwnWrite :=
  (entries.take n).mapIdx fun j b => { address := buffer + 32 * j, bytes := b, answered := mark j }

/-- The state with dump writes issued. -/
def State.addDump (s : State) (ws : List OwnWrite) : State :=
  { s with agent := { s.agent with dumpWrites := s.agent.dumpWrites ++ ws } }

/-! ### Geometry commands (4.3) -/

/-- SET_FIELD (R59). -/
def cmdSetField (width zmin zmax : Word) (s : State) : Ended :=
  if width.toNat < 256 ∨ 16384 < width.toNat then refuseWith s .badArgument 1
  else if zmin.toNat < 16384 ∨ 4194304 < zmin.toNat then refuseWith s .badArgument 2
  else if zmax.toNat < 16384 ∨ 4194304 < zmax.toNat then refuseWith s .badArgument 3
  else if zmax.toNat ≤ zmin.toNat then refuseWith s .badArgument 4
  else
    done (s.modCtl fun c =>
      { c with pendingField := some { width := width.toNat, zmin := zmin.toNat, zmax := zmax.toNat } })

/-- LOAD_CALIBRATION at its trigger: the checks of R60. -/
def trigLoadCalibration (m : Word) (buffer : Addr) (s : State) : Triggered :=
  match moduleArg s.cfg m with
  | none => .ended (.plain .badArgument)
  | some i =>
    if insideCarve s.cfg buffer.toNat 96 then .started (.loadCalibration i buffer.toNat)
    else .ended (.plain .outOfCarve)

/-- Entry i of the parallax table of a calibration buffer (R179). -/
def bufferEntry (buf : List Byte) (i : Nat) : ParallaxEntry where
  focus := fieldAt buf (32 + 8 * i) 2
  dx := signedAt buf (32 + 8 * i + 2) 2
  dy := signedAt buf (32 + 8 * i + 4) 2

/-- The index of the first entry that is not above its predecessor, from entry `i` on (R61). -/
def notIncreasing (i prev : Nat) : List ParallaxEntry → Option Nat
  | [] => none
  | e :: es => if e.focus ≤ prev then some i else notIncreasing (i + 1) e.focus es

/-- The table checks on the entries a buffer counts (R61). -/
def tableRefusal (es : List ParallaxEntry) : Option Nat :=
  match es.findIdx? fun e => decide (1023 < e.focus) with
  | some i => some i
  | none =>
    match es with
    | [] => none
    | e :: es => notIncreasing 1 e.focus es

/-- A band limit in its range (R57). -/
def bandOk (z : Nat) : Bool := decide (16384 ≤ z) && decide (z ≤ 4194304)

/-- The calibration record a buffer holds, with the first `n` entries (R179). -/
def bufferCalibration (buf : List Byte) (n : Nat) : Calibration where
  scale := fieldAt buf 0 4
  cx := signedAt buf 4 4
  cy := signedAt buf 8 4
  lo := fieldAt buf 12 4
  hi := fieldAt buf 16 4
  parallax := (List.range n).map (bufferEntry buf)

/-- The checks of a calibration buffer in their order: the refusal, or the record (R61). -/
def checkCalibration (buf : List Byte) : Except Reply Calibration :=
  let count := fieldAt buf 20 4
  let c := bufferCalibration buf (min count 8)
  if c.scale < 4096 ∨ 16777215 < c.scale then .error (.one .badArgument 0)
  else if !bandOk c.lo then .error (.one .badArgument 12)
  else if !bandOk c.hi then .error (.one .badArgument 16)
  else if c.hi ≤ c.lo then .error (.one .badArgument 12)
  else if 8 < count then .error (.one .badTable count)
  else
    match tableRefusal c.parallax with
    | some i => .error (.one .badTable i)
    | none => .ok c

/-- The end of LOAD_CALIBRATION with the bytes its reads brought: the record becomes the module's pending copy, or the
command fails (R61). -/
def endLoadCalibration (m : ModuleId) (buf : List Byte) (s : State) : Ended :=
  match checkCalibration buf with
  | .error r => (s, r)
  | .ok c =>
    (s.modCtl fun x => x.modModule m fun y => { y with pendingCalibration := some c }, .one .done c.parallax.length)

/-! ### Zoom and hand-off commands (5.2, 5.6, 6.8, 6.9) -/

/-- The rate ZOOM_TO keeps (R74). -/
def keptRate (r : Nat) : Nat := if r ≤ 65536 then 65536 else min r 131072

/-- ZOOM_CLAMPED at the command (R74). -/
def zoomClampedRaise (z : Nat) : Raise where
  kind := .zoomClamped
  subject := 0
  second := 0
  frame := word z
  reason := reasonCommand

/-- ZOOM_TO (R74). -/
def cmdZoomTo (target rate : Word) (s : State) : Ended :=
  let z := clamp s.ctl.field.zmin s.ctl.field.zmax target.toNat
  let r := keptRate rate.toNat
  let c := clamped target.toNat z
  let s := if c then s.raise (zoomClampedRaise z) else s
  (s.modCtl fun x => { x with pendingZoom := some { target := z, rate := r } },
    { outcome := .done, d0 := bitsNat [c, clamped rate.toNat r], d1 := z, d2 := r })

/-- FORCE_MODULE (R84). -/
def cmdForceModule (m : Word) (s : State) : Ended :=
  match moduleArg s.cfg m with
  | none => refuse s .badArgument
  | some i =>
    if s.trackers[i].record.enabled then done (s.modCtl fun c => { c with pendingForce := some (.force i) })
    else refuse s .notEnabled

/-- RELEASE_FORCE (R85). -/
def cmdReleaseForce (s : State) : Ended := done (s.modCtl fun c => { c with pendingForce := some .release })

/-- SET_HANDOFF (R104). -/
def cmdSetHandoff (hysteresis fade relax prepare tolerance quality : Word) (s : State) : Ended :=
  let p : HandoffParams :=
    { hysteresis := clamp 0 65536 hysteresis.toNat
      fade := clamp 1 64 fade.toNat
      relax := clamp 0 255 relax.toNat
      prepare := clamp 1 32 prepare.toNat
      tolerance := clamp 0 65535 tolerance.toNat
      quality := clamp 0 16368 quality.toNat }
  (s.modCtl fun c => { c with pendingParams := some p },
    .one .done
      (bitsNat [clamped hysteresis.toNat p.hysteresis, clamped fade.toNat p.fade, clamped relax.toNat p.relax,
        clamped prepare.toNat p.prepare, clamped tolerance.toNat p.tolerance, clamped quality.toNat p.quality]))

/-- The slot a part of an output frame pins for a module. -/
def partSlot (m : ModuleId) (p : Option Part) : Option Nat := p.bind fun p => if p.module = m then p.slot else none

/-- The slot the OPEN output frame of a view has pinned for a module (R106). -/
def View.pinnedFor (w : View) (m : ModuleId) : Option Nat :=
  (w.openName.bind w.frame).bind fun o => (partSlot m o.serving).or (partSlot m o.second)

/-- The slot FREEZE names for a module: the pacing view's, or else that of the other enabled view (R106). -/
def State.freezeSlot (s : State) (m : ModuleId) : Option Nat :=
  match s.pacingView with
  | none => none
  | some v =>
    (s.comp.views[v].pinnedFor m).or
      (let o : ViewId := if v = 0 then 1 else 0
       if s.comp.views[o].enabled then s.comp.views[o].pinnedFor m else none)

/-- The freeze holder put on the slot named for a module, if any (R46, R106). -/
def State.freezeModule (s : State) (m : ModuleId) : State :=
  s.modSlots m fun ms => (s.freezeSlot m).elim ms (ms.hold · .freeze)

/-- The composition state published with the frozen flag as given and nothing else changed (R106, R107; log 11). -/
def Controller.setFrozen (c : Controller) (b : Bool) : Controller := ({ c with frozen := b } : Controller).publish

/-- FREEZE (R106). -/
def cmdFreeze (s : State) : Ended :=
  if s.ctl.frozen then done s
  else done ((allModules.foldl State.freezeModule s).modCtl (·.setFrozen true))

/-- THAW (R107). -/
def cmdThaw (s : State) : Ended :=
  if s.ctl.frozen then done ((s.unholdAll .freeze).modCtl (·.setFrozen false)) else done s

/-! ### View commands (8.2) -/

/-- The first field of CONFIGURE_VIEW out of range, by its offset in the command cell (R126, R174). -/
def viewRange (width height stride timeout : Nat) : Option Nat :=
  if width < 64 ∨ 7680 < width then some 8
  else if height < 64 ∨ 4320 < height then some 12
  else if stride % 64 ≠ 0 ∨ stride < 4 * width ∨ 32768 < stride then some 16
  else if timeout < 1 ∨ 255 < timeout then some 28
  else none

/-- CONFIGURE_VIEW (R126). -/
def cmdConfigureView (v width height stride : Word) (start : Addr) (timeout : Word) (s : State) : Ended :=
  match viewArg v with
  | none => refuse s .badArgument
  | some i =>
    match viewRange width.toNat height.toNat stride.toNat timeout.toNat with
    | some field => refuseWith s .badArgument field
    | none =>
      if s.comp.views[i].enabled then refuse s .inUse
      else
        let e : Extent := { start := pageDown start.toNat, size := 4096 + pixelArea height.toNat stride.toNat }
        match s.windowRefusal (4 + i.val) none e with
        | some r => (s, r)
        | none =>
          let s := s.modView i fun w =>
            { w with
              configured := true, width := width.toNat, height := height.toNat, stride := stride.toNat
              timeout := timeout.toNat }
          done { s with path := { s.path with viewWindows := s.path.viewWindows.set i (.configured e) } }

/-- The view as ENABLE_VIEW leaves it (R127). -/
def View.enable (w : View) : View :=
  { w with enabled := true, openedSinceEnable := false, unopenedReported := false, frameA := none, frameB := none }

/-- ENABLE_VIEW (R127). -/
def cmdEnableView (v : Word) (s : State) : Ended :=
  match viewArg v with
  | none => refuse s .badArgument
  | some i =>
    if s.comp.views[i].enabled then done s
    else if !s.comp.views[i].configured then refuse s .notConfigured
    else
      let s := s.modView i View.enable
      done { s with path := { s.path with viewWindows := upd s.path.viewWindows i Window.activate } }

/-- Whether a read of a view holds an entry of the view read table (R128). -/
def State.viewInTable (s : State) (v : ViewId) : Bool :=
  s.comp.table.toList.any fun e => e.read.any fun r => r.view == v

/-- An output frame of a view closed, whatever its status, if the record holds one (R128, R135). -/
def State.closeAny (s : State) (v : ViewId) (f : FrameName) : State :=
  if (s.comp.views[v].frame f).isSome then s.closeFrame v f else s

/-- DISABLE_VIEW (R128). -/
def cmdDisableView (v : Word) (s : State) : Ended :=
  match viewArg v with
  | none => refuse s .badArgument
  | some i =>
    if !s.comp.views[i].enabled then done s
    else if s.viewInTable i then refuse s .inUse
    else
      let s := ((s.closeAny i .a).closeAny i .b).modView i fun w => { w with enabled := false }
      done { s with path := { s.path with viewWindows := upd s.path.viewWindows i Window.deactivate } }

/-! ### Agent commands (10.5) -/

/-- The low 16 bits of a mask argument; higher bits are ignored (R165, R166). -/
def maskArg (mask : Word) : BitVec 16 := mask.setWidth 16

/-- CLEAR_EVENTS: the named kinds are cleared and their entries rewritten, in increasing order (log 17); the detail is
the mask of the named kinds that were flagged (R165). -/
def cmdClearEvents (mask : Word) (s : State) : Ended :=
  let k := maskArg mask
  let named := allKinds.filter fun n => k.getLsbD n.val
  ({ s with agent := (named.foldl (fun a n => a.clearKind s.cfg n) s.agent).setLine },
    .one .done (flaggedMask s.agent.events k))

/-- SET_ATTENTION (R166). -/
def cmdSetAttention (mask : Word) (s : State) : Ended :=
  ({ s with agent := ({ s.agent with mask := maskArg mask } : Agent).setLine }, .one .done (maskArg mask).toNat)

end Sys2Proof.Machine
end

