-- ==== Sys2Proof/Machine/Agent.lean ====
section
/-! DEFINITION. The Command Agent: the command cell (R157, R174), the taking of a triggered command (R158 to R161), RESET_ALL
and the port reset (R162, R168, R19). -/

namespace Sys2Proof.Machine

/-- A command with its arguments as read from the staging copy (R174). -/
inductive Command where
  | configureModule (m owner width height stride : Word) (start : Addr) (staleLimit : Word)
  | enableModule (m : Word)
  | disableModule (m : Word)
  | resetModule (m : Word)
  | loadSlots (m : Word) (buffer : Addr) (countLess1 : Word)
  | holdFrame (m : Word)
  | releaseHold (m ticket : Word)
  | dumpSlots (m : Word) (buffer : Addr)
  | loadCalibration (m : Word) (buffer : Addr)
  | setField (fieldWidth zmin zmax : Word)
  | zoomTo (target rate : Word)
  | forceModule (m : Word)
  | releaseForce
  | setHandoff (hysteresis fade relax prepare tolerance quality : Word)
  | freeze
  | thaw
  | configureView (v width height stride : Word) (start : Addr) (timeout : Word)
  | enableView (v : Word)
  | disableView (v : Word)
  | clearEvents (mask : Word)
  | setAttention (mask : Word)
  | resetAll
deriving DecidableEq, Repr

/-- The number of a command's kind (R174). -/
def Command.kind : Command → Nat
  | .configureModule _ _ _ _ _ _ _ => 1
  | .enableModule _ => 2
  | .disableModule _ => 3
  | .resetModule _ => 4
  | .loadSlots _ _ _ => 5
  | .holdFrame _ => 6
  | .releaseHold _ _ => 7
  | .dumpSlots _ _ => 8
  | .loadCalibration _ _ => 9
  | .setField _ _ _ => 10
  | .zoomTo _ _ => 11
  | .forceModule _ => 12
  | .releaseForce => 13
  | .setHandoff _ _ _ _ _ _ => 14
  | .freeze => 15
  | .thaw => 16
  | .configureView _ _ _ _ _ _ => 17
  | .enableView _ => 18
  | .disableView _ => 19
  | .clearEvents _ => 20
  | .setAttention _ => 21
  | .resetAll => 22

/-! ### The command cell (R157, R174) -/

/-- A 32-bit argument of the cell. -/
def argAt (cell : List Byte) (off : Nat) : Word := word (fieldAt cell off 4)

/-- An 8-byte address argument of the cell. -/
def addrAt (cell : List Byte) (off : Nat) : Addr := BitVec.ofNat 64 (fieldAt cell off 8)

/-- The kind field: 16 bits at offset 0 (R170, R174). -/
def cellKind (cell : List Byte) : Nat := fieldAt cell 0 2

/-- The sequence word: offsets 60 to 63 (R174). -/
def cellSeq (cell : List Byte) : Word := argAt cell 60

/-- The command a cell holds; none where its kind names no command (R170, R174). -/
def decodeCell (cell : List Byte) : Option Command :=
  match cellKind cell with
  | 1 => some (.configureModule (argAt cell 4) (argAt cell 8) (argAt cell 12) (argAt cell 16) (argAt cell 20)
      (addrAt cell 24) (argAt cell 32))
  | 2 => some (.enableModule (argAt cell 4))
  | 3 => some (.disableModule (argAt cell 4))
  | 4 => some (.resetModule (argAt cell 4))
  | 5 => some (.loadSlots (argAt cell 4) (addrAt cell 8) (argAt cell 16))
  | 6 => some (.holdFrame (argAt cell 4))
  | 7 => some (.releaseHold (argAt cell 4) (argAt cell 8))
  | 8 => some (.dumpSlots (argAt cell 4) (addrAt cell 8))
  | 9 => some (.loadCalibration (argAt cell 4) (addrAt cell 8))
  | 10 => some (.setField (argAt cell 4) (argAt cell 8) (argAt cell 12))
  | 11 => some (.zoomTo (argAt cell 4) (argAt cell 8))
  | 12 => some (.forceModule (argAt cell 4))
  | 13 => some .releaseForce
  | 14 => some (.setHandoff (argAt cell 4) (argAt cell 8) (argAt cell 12) (argAt cell 16) (argAt cell 20) (argAt cell 24))
  | 15 => some .freeze
  | 16 => some .thaw
  | 17 => some (.configureView (argAt cell 4) (argAt cell 8) (argAt cell 12) (argAt cell 16) (addrAt cell 20)
      (argAt cell 28))
  | 18 => some (.enableView (argAt cell 4))
  | 19 => some (.disableView (argAt cell 4))
  | 20 => some (.clearEvents (argAt cell 4))
  | 21 => some (.setAttention (argAt cell 4))
  | 22 => some .resetAll
  | _ => none

/-- The staging copy with the bytes of a write at page offset `off` applied: those at offsets 0 to 63 (R157). -/
def stage (off : Nat) (bytes : List Byte) (cell : Vector Byte 64) : Vector Byte 64 :=
  Vector.ofFn fun i => if off ≤ i.val ∧ i.val < off + bytes.length then bytes.getD (i.val - off) 0 else cell[i]

/-- Whether a write carries all four bytes of the sequence word (R157). -/
def triggers (off len : Nat) : Bool := decide (off ≤ 60) && decide (64 ≤ off + len)

/-! ### Taking a command (R158 to R161) -/

/-- COMMAND_DONE: command kind, outcome, sequence word (R164). -/
def commandDoneRaise (seq : Word) (kind : Nat) (r : Reply) : Raise where
  kind := .commandDone
  subject := kind
  second := r.outcome.number
  frame := seq
  reason := 0

/-- The end of an immediate command: the snapshot where R167 calls for one, then the status record (R159). -/
def finishCommand (seq : Word) (kind : Nat) (snapshot : Bool) (e : Ended) : State :=
  let s := if snapshot && e.2.outcome == .done then e.1.writeSnapshot (.command kind) else e.1
  s.writeStatus seq kind e.2

/-- The end of a time-taking command: COMMAND_DONE, the snapshot for a LOAD_CALIBRATION that ends with DONE, the status
record, and no command in flight (R161). -/
def finishTimed (seq : Word) (kind : Nat) (snapshot : Bool) (e : Ended) : State :=
  let s := finishCommand seq kind snapshot (e.1.raise (commandDoneRaise seq kind e.2), e.2)
  { s with agent := { s.agent with inFlight := none } }

/-- A time-taking command at its trigger: it ends in this event, or becomes the command in flight, named by the next serial
number (R161). -/
def startTimed (seq : Word) (kind : Nat) (s : State) (x : Triggered) : State :=
  match x with
  | .ended r => finishTimed seq kind false (s, r)
  | .started op =>
    { s with
      serial := s.serial + 1
      agent := { s.agent with inFlight := some { serial := s.serial, seq := seq, op := op, progress := op.progress } } }

/-- The entries of a dump in flight that had been issued when a reset aborts it: those its progress shows, and as many more
as a free value says (R55, log 14); any other command in flight leaves none. -/
def Agent.abortedDump (a : Agent) : List OwnWrite :=
  match a.inFlight with
  | none => []
  | some f =>
    match f.op with
    | .dumpSlots _ buffer entries =>
      dumpWritesOf buffer entries (max f.progress.issued (Config.dumpIssued f.serial))
        (f.progress.mark { which := 0#0, errs := 0#0 })
    | .loadSlots _ _ _ => []
    | .loadCalibration _ _ => []

/-- The command in flight as a reset aborts it: what a dump had issued stays issued. -/
def State.abortInFlight (s : State) : State := s.addDump s.agent.abortedDump

/-- The blocks at their reset values, the queues of the Memory Path kept as `path` gives them: steps 1 to 3 of R162. The
Agent's writes already issued stay as issued. -/
def State.resetBlocks (s : State) (path : MemoryPath) : State :=
  { s with
    path := path
    trackers := Vector.replicate 4 .reset
    store := .reset
    ctl := .reset
    reg := .reset
    comp := s.comp.clear
    agent := { Agent.reset with writes := s.agent.writes, dumpWrites := s.agent.dumpWrites } }

/-- The start record, with the kind and first detail of its status record (R168). -/
def State.writeStart (s : State) (kind detail : Nat) : State :=
  { s with
    agent :=
      { s.agent with
        writes := s.agent.writes ++
          startRecord s.cfg s.agent.writes.length s.time s.trackers s.ctl s.reg kind detail } }

/-- RESET_ALL (R162): the command in flight aborted, the reads of the table answered with errors, every block at its reset
values, the start record. Forwarded transactions and answer queues stay (R19). -/
def State.resetAll (s : State) (seq : Word) : State :=
  let s := s.abortInFlight.failReads
  let path : MemoryPath :=
    { s.path with
      captureWindows := Vector.replicate 4 .unconfigured
      viewWindows := Vector.replicate 2 .unconfigured }
  (s.resetBlocks path).writeStart 22 seq.toNat

/-- A port reset and the leaving of it (R19, R38, R144, R155, R162, R168): what was accepted or waits at the port is lost,
every block takes its reset values, and the start record follows. -/
def State.portReset (s : State) : State :=
  let s := s.abortInFlight
  (s.resetBlocks { MemoryPath.reset with returned := s.path.returned }).writeStart 0 0

/-- The command handed to the block that owns it, and its end (R158, step 4; R159; R167). -/
def dispatch (seq : Word) (c : Command) (s : State) : State :=
  match c with
  | .configureModule m o w h d a l => finishCommand seq 1 false (cmdConfigureModule m o w h d a l s)
  | .enableModule m => finishCommand seq 2 false (cmdEnableModule m s)
  | .disableModule m => finishCommand seq 3 false (cmdDisableModule m s)
  | .resetModule m => finishCommand seq 4 true (cmdResetModule m s)
  | .loadSlots m b n => startTimed seq 5 s (trigLoadSlots m b n s)
  | .holdFrame m => finishCommand seq 6 false (cmdHoldFrame m s)
  | .releaseHold m t => finishCommand seq 7 false (cmdReleaseHold m t s)
  | .dumpSlots m b => startTimed seq 8 s (trigDumpSlots m b s)
  | .loadCalibration m b => startTimed seq 9 s (trigLoadCalibration m b s)
  | .setField w lo hi => finishCommand seq 10 true (cmdSetField w lo hi s)
  | .zoomTo t r => finishCommand seq 11 true (cmdZoomTo t r s)
  | .forceModule m => finishCommand seq 12 true (cmdForceModule m s)
  | .releaseForce => finishCommand seq 13 true (cmdReleaseForce s)
  | .setHandoff h f l p t q => finishCommand seq 14 true (cmdSetHandoff h f l p t q s)
  | .freeze => finishCommand seq 15 true (cmdFreeze s)
  | .thaw => finishCommand seq 16 true (cmdThaw s)
  | .configureView v w h d a t => finishCommand seq 17 false (cmdConfigureView v w h d a t s)
  | .enableView v => finishCommand seq 18 false (cmdEnableView v s)
  | .disableView v => finishCommand seq 19 false (cmdDisableView v s)
  | .clearEvents m => finishCommand seq 20 false (cmdClearEvents m s)
  | .setAttention m => finishCommand seq 21 false (cmdSetAttention m s)
  | .resetAll => s.resetAll seq

/-- The BUSY answer: the status record alone, with the kind and sequence word of the command in flight (R158, step 2). -/
def State.busy (s : State) (seq : Word) (kind : Nat) (f : InFlight) : State :=
  s.writeStatus seq kind { outcome := .busy, d0 := f.op.kind, d1 := f.seq.toNat, d2 := 0 }

/-- A triggered command is taken: RESET_ALL always; BUSY while a command is in flight; else the command (R158). -/
def State.take (s : State) (seq : Word) (c : Command) : State :=
  if c = .resetAll then s.resetAll seq
  else
    match s.agent.inFlight with
    | some f => s.busy seq c.kind f
    | none => dispatch seq c s

/-- A trigger from a cell: the command it holds is taken; a kind that names no command is BUSY or UNKNOWN_COMMAND
(R158). -/
def State.trigger (s : State) (cell : List Byte) : State :=
  match decodeCell cell with
  | some c => s.take (cellSeq cell) c
  | none =>
    match s.agent.inFlight with
    | some f => s.busy (cellSeq cell) (cellKind cell) f
    | none => s.writeStatus (cellSeq cell) (cellKind cell) (.one .unknownCommand (cellKind cell))

/-- A write of class CP at page offset `off`, as the Agent takes it (R13, R157). -/
def State.cellWrite (s : State) (off : Nat) (bytes : List Byte) : State :=
  let cell := stage off bytes s.agent.staging
  let s := { s with agent := { s.agent with staging := cell } }
  if triggers off bytes.length then s.trigger cell.toList else s

/-! ### The ends of the commands in flight (R50, R55, R61, R161) -/

/-- The state with the progress of the command in flight as given, and nothing else changed. -/
def State.keepProgress (s : State) (f : InFlight) (p : Progress) : State :=
  { s with agent := { s.agent with inFlight := some { f with progress := p } } }

/-- Answers to reads of a command in flight: the first erring one ends it (`failed`), the last one ends it with the bytes
read (`read`), and any other only its progress (R50, R61, R161). -/
def State.takeReads {n : Nat} (s : State) (f : InFlight) (snapshot : Bool) (a : AccessAnswers n) (buf : List Byte)
    (failed : Nat → Ended) (read : List Byte → Ended) : State :=
  match f.progress.firstFailed a with
  | some j => finishTimed f.seq f.op.kind snapshot (failed j)
  | none =>
    let p := f.progress.receive a buf
    if p.complete then finishTimed f.seq f.op.kind snapshot (read p.bytes) else s.keepProgress f p

/-- Answers to writes of a dump in flight, with `issued` entries issued by now: the first erring one ends it, the last one
ends it with DONE, and any other only its progress (R55, R161). -/
def State.takeWrites (s : State) (f : InFlight) (buffer : Nat) (entries : List (List Byte)) (issued : Nat)
    (a : AccessAnswers 8) : State :=
  let p := f.progress.issueTo issued
  let ws := dumpWritesOf buffer entries p.issued (p.mark a)
  match p.firstFailed a with
  | some j => finishTimed f.seq f.op.kind false (s.addDump ws, .one .fetchFailed j)
  | none =>
    let p' := p.receive a []
    if p'.complete then finishTimed f.seq f.op.kind false (s.addDump ws, .one .done entries.length)
    else s.keepProgress f p'

/-- Answers to the reads of a LOAD_SLOTS in flight, if `serial` names it; answers for any other command are discarded
(R50, R51). -/
def State.loadSlotsEnd (s : State) (serial : Nat) (a : AccessAnswers 8) (buf : List Byte) : State :=
  match s.agent.inFlight with
  | none => s
  | some f =>
    match f.op with
    | .loadSlots m _ count =>
      if f.serial = serial then
        s.takeReads f false a buf (refuseWith s .fetchFailed) fun b => endLoadSlots m count b s
      else s
    | .dumpSlots _ _ _ => s
    | .loadCalibration _ _ => s

/-- Answers to the writes of a DUMP_SLOTS in flight, if `serial` names it (R55). -/
def State.dumpSlotsEnd (s : State) (serial : Nat) (a : AccessAnswers 8) (issued : Nat) : State :=
  match s.agent.inFlight with
  | none => s
  | some f =>
    match f.op with
    | .dumpSlots _ buffer entries =>
      if f.serial = serial then s.takeWrites f buffer entries issued a else s
    | .loadSlots _ _ _ => s
    | .loadCalibration _ _ => s

/-- Answers to the reads of a LOAD_CALIBRATION in flight, if `serial` names it; answers for any other command are
discarded (R61, R62). -/
def State.loadCalibrationEnd (s : State) (serial : Nat) (a : AccessAnswers 12) (buf : List Byte) : State :=
  match s.agent.inFlight with
  | none => s
  | some f =>
    match f.op with
    | .loadCalibration m _ =>
      if f.serial = serial then
        s.takeReads f true a buf (fun _ => refuseWith s .fetchFailed 0)
          fun b => endLoadCalibration m b s
      else s
    | .loadSlots _ _ _ => s
    | .dumpSlots _ _ _ => s

/-- Memory's answer to a write of the Agent into the control page: it is noted, and nothing else follows, error or not
(R169). -/
def State.agentWriteAnswer (s : State) (write : Nat) (err : Bool) : State :=
  { s with
    agent :=
      { s.agent with writes := s.agent.writes.modify write fun w => { w with answered := w.answered.or (some err) } } }

end Sys2Proof.Machine
end

