-- ==== Sys2Proof/Machine/Traffic.lean ====
section
/-! DEFINITION. Upstream traffic: classification and acceptance (R1, R6 to R18), the frame protocol of the Capture Tracker
(R23 to R33), and memory's answers (R17). -/

namespace Sys2Proof.Machine

/-! ### Classification (R6, R7) -/

/-- The class of a byte (R6). The class of a slot's bytes names the slot; `outside` is a byte outside the carve-out. -/
inductive ByteClass where
  | capture (m : ModuleId)
  | view (v : ViewId)
  | control
  | slot (m : ModuleId) (i : Nat)
  | plain
  | outside
deriving DecidableEq, Repr

/-- Whether an address lies in an ACTIVE window. -/
def Window.coversActive (w : Window) (a : Nat) : Bool :=
  match w with
  | .active e => e.contains a
  | .configured _ => false
  | .unconfigured => false

/-- The start of a window; 0 where it has none, which no active window lacks (R3). -/
def Window.start (w : Window) : Nat := w.extent.elim 0 (·.start)

/-- The loaded slot of a module whose extent holds an address. -/
def ModuleSlots.slotAt (ms : ModuleSlots) (a : Nat) : Option Nat := ms.slots.findIdx? (·.extent.contains a)

/-- The loaded slot whose extent holds an address. -/
def State.slotAt (s : State) (a : Nat) : Option (ModuleId × Nat) :=
  allModules.findSome? fun m => (s.store.mods[m].slotAt a).map fun i => (m, i)

/-- The class of the byte at an address (R6). -/
def State.classAt (s : State) (a : Nat) : ByteClass :=
  match allModules.find? fun m => s.path.captureWindows[m].coversActive a with
  | some m => .capture m
  | none =>
    match allViews.find? fun v => s.path.viewWindows[v].coversActive a with
    | some v => .view v
    | none =>
      if (controlExtent s.cfg).contains a then .control
      else
        match s.slotAt a with
        | some (m, i) => .slot m i
        | none => if insideCarve s.cfg a 1 then .plain else .outside

/-- The class of a transaction: that of its first byte if its last byte has the same one, else none, and the transaction
is refused as a span (R6, R7). -/
def State.classify (s : State) (x : Transaction) : Option ByteClass :=
  let c := s.classAt x.address.toNat
  if c = s.classAt (x.address.toNat + x.len - 1) then some c else none

/-! ### Events the Memory Path and the Tracker raise (R164) -/

/-- SPAN_REFUSED: the requester identity (R7). -/
def spanRaise (requester : Byte) : Raise where
  kind := .spanRefused
  subject := requester.toNat
  second := 0
  frame := 0
  reason := 0

/-- WRITE_REFUSED: the module or view, the requester identity, the reason (R8, R12, R14). -/
def writeRefusedRaise (subject : Nat) (requester : Byte) (reason : Nat) : Raise where
  kind := .writeRefused
  subject := subject
  second := requester.toNat
  frame := 0
  reason := reason

/-- An event that names a module and a frame number (R22 to R33). -/
def moduleRaise (kind : EventKind) (m : ModuleId) (frame : Word) (reason : Nat) : Raise where
  kind := kind
  subject := m.val
  second := 0
  frame := frame
  reason := reason

/-! ### Pixel-area writes (R23 to R25) -/

/-- The rounded pixel area P of a module (R2). -/
def ModuleRecord.area (r : ModuleRecord) : Nat := pixelArea r.height r.stride

/-- The window offsets of the pixel words that lie whole inside a write of `len` bytes at window offset `off`, in
increasing order (R24). Strides are multiples of 64, so that words begin at multiples of 4. -/
def wholeWords (off len : Nat) : List Nat :=
  ((List.range (len / 4)).map fun i => (off + 3) / 4 * 4 + 4 * i).filter fun o => decide (o + 4 ≤ off + len)

/-- The counted pixel at a window offset, if its row and column lie in the frame (R24). -/
def countedAt (r : ModuleRecord) (off : Nat) (bytes : List Byte) (o : Nat) : Option CountedPixel :=
  if o / r.stride < r.height ∧ o % r.stride / 4 < r.width then
    some { row := o / r.stride, col := o % r.stride / 4, luma := fieldAt bytes (o - off) 4 % 1024 }
  else none

/-- The counted pixels of a write, in increasing address order (R24). -/
def countedPixels (r : ModuleRecord) (off : Nat) (bytes : List Byte) : List CountedPixel :=
  (wholeWords off bytes.length).filterMap (countedAt r off bytes)

/-- An accumulator with the pixels of a write added (R109). -/
def Profile.addAll (a : Profile) (ps : List CountedPixel) : Profile := ps.foldl Profile.addPixel a

/-- The capture state with the counted pixels of a write handed on (R24, R109). -/
def Capture.count (ps : List CountedPixel) : Capture → Capture
  | .filling i acc => .filling i (acc.map (·.addAll ps))
  | .disabled => .disabled
  | .idle => .idle
  | .discarding => .discarding

/-- The tracker with another capture state. -/
def Tracker.setCapture (t : Tracker) (c : Capture) : Tracker := { t with capture := c }

/-- A frame opens at an IDLE module: FILLING with the granted slot and, where the module has a rectangle, a fresh
accumulator; or DISCARDING with FRAME_DISCARDED (R23, R44, R108). -/
def State.openCapture (s : State) (m : ModuleId) : State :=
  match s.store.mods[m].grant with
  | some i =>
    (s.modSlots m (·.take i)).modTracker m (·.setCapture (.filling i (s.ctl.mods[m].rect.map Profile.fresh)))
  | none =>
    (s.modTracker m (·.setCapture .discarding)).raise
      (moduleRaise .frameDiscarded m s.trackers[m].record.lastTrailer 0)

/-- The base of a loaded slot; 0 where there is none, which no fill slot or ready slot lacks. -/
def State.slotBase (s : State) (m : ModuleId) (i : Nat) : Nat := s.store.mods[m].slots[i]?.elim 0 (·.base)

/-- A pixel-area write while a frame is open: counted and translated into the fill slot (R10, R24), or dropped with an OK
answer (R9, R25). -/
def State.pixelOpen (s : State) (m : ModuleId) (place off : Nat) (x : Transaction) : State :=
  match s.trackers[m].capture.fillSlot with
  | some i =>
    let ps := countedPixels s.trackers[m].record off (writeBytes x)
    (s.modTracker m fun t => t.setCapture (t.capture.count ps)).forward place (s.slotBase m i + off) x
  | none => s.answer place (.ok [])

/-- An owner's pixel-area write: it opens a frame where the module is IDLE, and is then dealt with as a write of the open
frame (R23 to R25). -/
def State.pixelWrite (s : State) (m : ModuleId) (place off : Nat) (x : Transaction) : State :=
  if s.trackers[m].capture = .idle then (s.openCapture m).pixelOpen m place off x else s.pixelOpen m place off x

/-! ### The trailer (R26 to R32, R173) -/

/-- The fields of a well-formed trailer, as latched (R26, R173). -/
def latchTrailer (b : List Byte) : Trailer where
  frame := word (fieldAt b 0 4)
  start := BitVec.ofNat 64 (fieldAt b 8 8)
  duration := fieldAt b 16 4
  gain := fieldAt b 20 2
  focus := min 1023 (fieldAt b 22 2)
  pipelineError := fieldAt b 24 4 % 2 == 1

/-- The verdict on a well-formed trailer (R27). -/
inductive Verdict where
  | good
  | invalid
  | suspect
deriving DecidableEq, Repr

/-- R27, its checks in order. -/
def Trailer.verdict (t : Trailer) : Verdict :=
  if t.pipelineError then .suspect else if t.duration = 0 ∨ t.gain = 0 then .invalid else .good

/-- The reason a verdict gives TRAILER_BAD; a good trailer raises none for its verdict (R27, R29). -/
def Verdict.reason : Verdict → Option Nat
  | .good => none
  | .invalid => some reasonInvalid
  | .suspect => some reasonSuspect

/-- The frame record of a close (R41). -/
def frameRecord (t : Trailer) (order : Word) (profile : Option Profile) : FrameRecord where
  frame := t.frame
  start := t.start
  duration := t.duration
  gain := t.gain
  focus := t.focus
  midpoint := BitVec.ofNat 64 (t.start.toNat + t.duration / 2)
  closeOrder := order
  profile := profile

/-- The Slot Store's close of a fill slot (R41, R45). -/
def State.closeSlot (s : State) (m : ModuleId) (i : Nat) (acc : Option Profile) (t : Trailer) : State :=
  let order := s.store.closeOrder + 1
  let s := s.modSlots m (·.close i (frameRecord t order acc))
  { s with store := { s.store with closeOrder := order } }

/-- The tracker with liveness renewed (R32). -/
def Tracker.renew (t : Tracker) (deadline : Time) (frame : Word) : Tracker :=
  { t with record := { t.record with lastTrailer := frame }, deadline := some deadline }

/-- Liveness renewed by a trailer, with MODULE_LIVE where the module was STALE (R32). -/
def State.renew (s : State) (m : ModuleId) (frame : Word) : State :=
  let s' := s.modTracker m (·.renew (laterBy s.serial s.time s.trackers[m].record.staleLimit) frame)
  if s.live m then s' else s'.raise (moduleRaise .moduleLive m frame 0)

/-- TRAILER_BAD (R27). -/
def State.trailerBad (s : State) (m : ModuleId) (frame : Word) (reason : Nat) : State :=
  s.raise (moduleRaise .trailerBad m frame reason)

/-- The module IDLE with no frame open. -/
def State.setIdle (s : State) (m : ModuleId) : State := s.modTracker m (·.setCapture .idle)

/-- A good close, its steps in order: the slot READY, the state IDLE, liveness, the bar cleared, the search for a pair
(R28, R82). -/
def State.closeFrameOf (s : State) (m : ModuleId) (i : Nat) (acc : Option Profile) (t : Trailer) : State :=
  let s := (((s.closeSlot m i acc t).setIdle m).renew m t.frame)
  (s.modCtl fun c => c.modModule m fun x => { x with barred := false }).lookForPair m

/-- A well-formed trailer, by the capture state that takes it (R28 to R30). TRAILER_BAD goes before MODULE_LIVE
(log 17). -/
def State.trailer (s : State) (m : ModuleId) (t : Trailer) : State :=
  match s.trackers[m].capture with
  | .filling i acc =>
    match t.verdict.reason with
    | none => s.closeFrameOf m i acc t
    | some reason => (((s.returnFill m).setIdle m).trailerBad m t.frame reason).renew m t.frame
  | .discarding =>
    match t.verdict.reason with
    | none => (s.setIdle m).renew m t.frame
    | some reason => ((s.setIdle m).trailerBad m t.frame reason).renew m t.frame
  | .idle => (s.trailerBad m t.frame reasonIdle).renew m t.frame
  | .disabled => s

/-- Whether a frame is open. -/
def Capture.isOpen : Capture → Bool
  | .filling _ _ => true
  | .discarding => true
  | .idle => false
  | .disabled => false

/-- A malformed trailer-page write (R31). -/
def State.malformed (s : State) (m : ModuleId) : State :=
  if s.trackers[m].capture.isOpen then
    ((s.returnFill m).setIdle m).trailerBad m s.trackers[m].record.lastTrailer reasonMalformed
  else s

/-- An owner's trailer-page write, answered OK whatever it holds (R9, R26). -/
def State.trailerWrite (s : State) (m : ModuleId) (place off : Nat) (x : Transaction) : State :=
  let s' :=
    if x.len = 64 ∧ off = s.trackers[m].record.area then s.trailer m (latchTrailer (writeBytes x))
    else s.malformed m
  s'.answer place (.ok [])

/-! ### Acceptance by class (R8 to R16) -/

/-- A refused write: an error answer and WRITE_REFUSED (R8, R12, R14). -/
def State.refuseWrite (s : State) (place subject : Nat) (requester : Byte) (reason : Nat) : State :=
  (s.answer place .error).raise (writeRefusedRaise subject requester reason)

/-- The slot a capture read reaches: the fill slot, else the newest READY slot (R11). -/
def State.captureReadSlot (s : State) (m : ModuleId) : Option Nat :=
  s.trackers[m].capture.fillSlot.or s.store.mods[m].newest

/-- A read of class C-m at window offset `off` (R11). -/
def State.captureRead (s : State) (m : ModuleId) (place off : Nat) (x : Transaction) : State :=
  if off < s.trackers[m].record.area then
    match s.captureReadSlot m with
    | some i => s.forward place (s.slotBase m i + off) x
    | none => s.answer place (.ok (zeros x.len))
  else s.answer place (.ok (zeros x.len))

/-- A write of class C-m at window offset `off`: the owner check, then the pixel area or the trailer page (R8, R9). -/
def State.captureWrite (s : State) (m : ModuleId) (place off : Nat) (x : Transaction) : State :=
  if x.requester = s.trackers[m].record.owner then
    if off < s.trackers[m].record.area then s.pixelWrite m place off x else s.trailerWrite m place off x
  else s.refuseWrite place m.val x.requester reasonOwner

/-- The slot guard: whether a write into a slot is refused (R14). -/
def Slot.guarded (s : Slot) : Bool := s.isFilling || (s.isReady && !HolderSet.isEmpty s.holders)

/-- A transaction of slot-memory class (R14). -/
def State.slotAccess (s : State) (m : ModuleId) (i place : Nat) (x : Transaction) : State :=
  if isWrite x && s.store.mods[m].slots[i]?.elim false Slot.guarded then
    s.refuseWrite place m.val x.requester reasonGuard
  else s.forward place x.address.toNat x

/-- A transaction of class CP: forwarded, and a write handed to the Agent as well (R13). -/
def State.controlAccess (s : State) (place : Nat) (x : Transaction) : State :=
  let s := s.forward place x.address.toNat x
  if isWrite x then s.cellWrite (x.address.toNat - s.cfg.controlPage) (writeBytes x) else s

/-- An accepted transaction dealt with by its class, `place` being its place in its requester's answer queue. -/
def State.acceptClass (s : State) (place : Nat) (x : Transaction) : Option ByteClass → State
  | none => (s.answer place .error).raise (spanRaise x.requester)
  | some (.capture m) =>
    let off := x.address.toNat - s.path.captureWindows[m].start
    if isWrite x then s.captureWrite m place off x else s.captureRead m place off x
  | some (.view v) =>
    if isWrite x then s.refuseWrite place v.val x.requester reasonView
    else s.acceptViewRead x.requester v place (x.address.toNat - s.path.viewWindows[v].start) x.len
  | some .control => s.controlAccess place x
  | some (.slot m i) => s.slotAccess m i place x
  | some .plain => s.forward place x.address.toNat x
  | some .outside => s.forward place x.address.toNat x

/-- A transaction accepted: classified, given its place, dealt with (R1). -/
def State.accept (s : State) (x : Transaction) : State := (s.enqueue x.requester).acceptClass s.serial x (s.classify x)

/-! ### The port: arrival, stall, answers (R1, R17, R18) -/

/-- Whether a class is that of a view window. -/
def isViewClass : Option ByteClass → Bool
  | some (.view _) => true
  | _ => false

/-- Whether acceptance stalls at a transaction: a read of class V-v with every entry of the table in use (R18). -/
def State.stalls (s : State) (x : Transaction) : Bool :=
  !isWrite x && isViewClass (s.classify x) && s.freeEntryId.isNone

/-- Transactions accepted in arrival order until one stalls; it and what follows it wait at the port (R1, R18). -/
def drain : List Transaction → State → State
  | [], s => { s with path := { s.path with waiting := [] } }
  | x :: xs, s => if s.stalls x then { s with path := { s.path with waiting := x :: xs } } else drain xs (s.accept x)

/-- The end of an event that may free entries or make answers ready: what waits at the port goes on, and ready answers at
the heads of the queues are returned (R17, R18). -/
def State.finish (s : State) : State := (drain s.path.waiting s).deliver

/-- Whether a transaction is routed to the carve-out, by its first byte; any other does not reach the port (log 6). -/
def State.routed (s : State) (x : Transaction) : Bool := insideCarve s.cfg x.address.toNat 1

/-- A transaction arrives at the port, behind those that wait there (R1). -/
def State.arrive (s : State) (x : Transaction) : State :=
  if s.routed x then (drain (s.path.waiting ++ [x]) s).deliver else s

/-- Memory's answer to a transaction of `len` bytes, as its requester receives it: a read takes its data (1.1). -/
def Downstream.answerOf (d : Downstream) : MemAnswer → Answer
  | .error => .error
  | .data p => .ok (if d.bytes.isNone then payloadBytes p d.len else [])

/-- Memory answers the forwarded transaction at an answer place; an answer that no transaction waits for is none of the
port's (R17, log 5). -/
def State.memoryAnswer (s : State) (place : Nat) (a : MemAnswer) : State :=
  match s.path.downstream.find? (·.place == place) with
  | none => s
  | some d =>
    ((({ s with path := { s.path with downstream := s.path.downstream.filter (·.place != place) } } : State)).answer place
      (d.answerOf a)).deliver

/-! ### Liveness (R33) -/

/-- The tracker after an expiry: STALE, and IDLE where a frame was open (R33). -/
def Tracker.expire (t : Tracker) : Tracker :=
  { t with deadline := none, capture := if t.capture.isOpen then .idle else t.capture }

/-- The deadline of a module is looked at: where the time count has reached it, it expires (R33). -/
def State.livenessExpiry (s : State) (m : ModuleId) : State :=
  match s.trackers[m].deadline with
  | none => s
  | some d =>
    if d.toNat ≤ s.time.toNat then
      ((s.returnFill m).modTracker m Tracker.expire).raise
        (moduleRaise .moduleStale m s.trackers[m].record.lastTrailer 0)
    else s

end Sys2Proof.Machine
end

