-- ==== Sys2Proof/Machine/CellCommands.lean ====
section
/-! DEFINITION. The meanings of the commands of the command cell (R158 to R162), and the ends of the three that take time.
Each is the Agent's taking of the command with its sequence word `q` at the time count `t` (log 1, 4). -/

namespace Sys2Proof.Machine

/-! ### Module commands (2.8) -/

/-- CONFIGURE_MODULE (R34). -/
def execConfigureModule (t : Time) (q m owner width height stride : Word) (start : Addr) (staleLimit : Word) (s : State) :
    Host.Outcome State Fault Refusal :=
  .next ((s.atTime t).take q (.configureModule m owner width height stride start staleLimit))

/-- ENABLE_MODULE (R35). -/
def execEnableModule (t : Time) (q m : Word) (s : State) : Host.Outcome State Fault Refusal :=
  .next ((s.atTime t).take q (.enableModule m))

/-- DISABLE_MODULE (R36). -/
def execDisableModule (t : Time) (q m : Word) (s : State) : Host.Outcome State Fault Refusal :=
  .next ((s.atTime t).take q (.disableModule m))

/-- RESET_MODULE (R37). -/
def execResetModule (t : Time) (q m : Word) (s : State) : Host.Outcome State Fault Refusal :=
  .next ((s.atTime t).take q (.resetModule m))

/-! ### Slot commands (3.7 to 3.9) -/

/-- LOAD_SLOTS at its trigger (R49). -/
def execLoadSlots (t : Time) (q m : Word) (buffer : Addr) (countLess1 : Word) (s : State) :
    Host.Outcome State Fault Refusal :=
  .next ((s.atTime t).take q (.loadSlots m buffer countLess1))

/-- LOAD_SLOTS_END: answers to the reads of LOAD_SLOTS, the last or an erring one of which ends it (R50). -/
def execLoadSlotsEnd (t : Time) (serial : Nat) (answers : AccessAnswers 8) (buf : Vector Byte 64) (s : State) :
    Host.Outcome State Fault Refusal :=
  .next ((s.atTime t).loadSlotsEnd serial answers buf.toList)

/-- HOLD_FRAME (R52). -/
def execHoldFrame (t : Time) (q m : Word) (s : State) : Host.Outcome State Fault Refusal :=
  .next ((s.atTime t).take q (.holdFrame m))

/-- RELEASE_HOLD (R53). -/
def execReleaseHold (t : Time) (q m ticket : Word) (s : State) : Host.Outcome State Fault Refusal :=
  .next ((s.atTime t).take q (.releaseHold m ticket))

/-- DUMP_SLOTS at its trigger (R54). -/
def execDumpSlots (t : Time) (q m : Word) (buffer : Addr) (s : State) : Host.Outcome State Fault Refusal :=
  .next ((s.atTime t).take q (.dumpSlots m buffer))

/-- DUMP_SLOTS_END: answers to the writes of DUMP_SLOTS, the last or an erring one of which ends it (R55). -/
def execDumpSlotsEnd (t : Time) (serial : Nat) (answers : AccessAnswers 8) (issued : Nat) (s : State) :
    Host.Outcome State Fault Refusal :=
  .next ((s.atTime t).dumpSlotsEnd serial answers issued)

/-! ### Geometry commands (4.3) -/

/-- LOAD_CALIBRATION at its trigger (R60). -/
def execLoadCalibration (t : Time) (q m : Word) (buffer : Addr) (s : State) : Host.Outcome State Fault Refusal :=
  .next ((s.atTime t).take q (.loadCalibration m buffer))

/-- LOAD_CALIBRATION_END: answers to the reads of LOAD_CALIBRATION, the last or an erring one of which ends it (R61). -/
def execLoadCalibrationEnd (t : Time) (serial : Nat) (answers : AccessAnswers 12) (buf : Vector Byte 96) (s : State) :
    Host.Outcome State Fault Refusal :=
  .next ((s.atTime t).loadCalibrationEnd serial answers buf.toList)

/-- SET_FIELD (R59). -/
def execSetField (t : Time) (q fieldWidth zmin zmax : Word) (s : State) : Host.Outcome State Fault Refusal :=
  .next ((s.atTime t).take q (.setField fieldWidth zmin zmax))

/-! ### Zoom and hand-off commands (5.2, 5.6, 6.8, 6.9) -/

/-- ZOOM_TO (R74). -/
def execZoomTo (t : Time) (q target rate : Word) (s : State) : Host.Outcome State Fault Refusal :=
  .next ((s.atTime t).take q (.zoomTo target rate))

/-- FORCE_MODULE (R84). -/
def execForceModule (t : Time) (q m : Word) (s : State) : Host.Outcome State Fault Refusal :=
  .next ((s.atTime t).take q (.forceModule m))

/-- RELEASE_FORCE (R85). -/
def execReleaseForce (t : Time) (q : Word) (s : State) : Host.Outcome State Fault Refusal :=
  .next ((s.atTime t).take q .releaseForce)

/-- SET_HANDOFF (R104). -/
def execSetHandoff (t : Time) (q hysteresis fade relax prepare tolerance quality : Word) (s : State) :
    Host.Outcome State Fault Refusal :=
  .next ((s.atTime t).take q (.setHandoff hysteresis fade relax prepare tolerance quality))

/-- FREEZE (R106). -/
def execFreeze (t : Time) (q : Word) (s : State) : Host.Outcome State Fault Refusal :=
  .next ((s.atTime t).take q .freeze)

/-- THAW (R107). -/
def execThaw (t : Time) (q : Word) (s : State) : Host.Outcome State Fault Refusal :=
  .next ((s.atTime t).take q .thaw)

/-! ### View commands (8.2) -/

/-- CONFIGURE_VIEW (R126). -/
def execConfigureView (t : Time) (q v width height stride : Word) (start : Addr) (timeout : Word) (s : State) :
    Host.Outcome State Fault Refusal :=
  .next ((s.atTime t).take q (.configureView v width height stride start timeout))

/-- ENABLE_VIEW (R127). -/
def execEnableView (t : Time) (q v : Word) (s : State) : Host.Outcome State Fault Refusal :=
  .next ((s.atTime t).take q (.enableView v))

/-- DISABLE_VIEW (R128). -/
def execDisableView (t : Time) (q v : Word) (s : State) : Host.Outcome State Fault Refusal :=
  .next ((s.atTime t).take q (.disableView v))

/-! ### Agent commands (10.4, 10.5) -/

/-- CLEAR_EVENTS (R165). -/
def execClearEvents (t : Time) (q mask : Word) (s : State) : Host.Outcome State Fault Refusal :=
  .next ((s.atTime t).take q (.clearEvents mask))

/-- SET_ATTENTION (R166). -/
def execSetAttention (t : Time) (q mask : Word) (s : State) : Host.Outcome State Fault Refusal :=
  .next ((s.atTime t).take q (.setAttention mask))

/-- RESET_ALL (R162). The answers it makes ready are returned, and what waited at the port for an entry goes on (R17,
R18). -/
def execResetAll (t : Time) (q : Word) (s : State) : Host.Outcome State Fault Refusal :=
  .next ((s.atTime t).take q .resetAll).finish

end Sys2Proof.Machine
end

