-- ==== Sys2Proof/Machine/PortEvents.lean ====
section
/-! DEFINITION. The meanings of the commands that reach the block at its ports and lines: traffic, memory's answers,
deadlines, the ends of computations, the port reset. `t` is the time count at the event (log 1). -/

namespace Sys2Proof.Machine

/-- UPSTREAM_TRANSACTION (R1). -/
def execUpstreamTransaction (t : Time) (x : Transaction) (s : State) : Host.Outcome State Fault Refusal :=
  .next ((s.atTime t).arrive x)

/-- MEMORY_ANSWER (R17). -/
def execMemoryAnswer (t : Time) (place : Nat) (a : MemAnswer) (s : State) : Host.Outcome State Fault Refusal :=
  .next ((s.atTime t).memoryAnswer place a)

/-- LIVENESS_EXPIRY (R33). -/
def execLivenessExpiry (t : Time) (m : ModuleId) (s : State) : Host.Outcome State Fault Refusal :=
  .next ((s.atTime t).livenessExpiry m)

/-- REGISTRATION_COMPLETION (R121). -/
def execRegistrationCompletion (t : Time) (s : State) : Host.Outcome State Fault Refusal :=
  .next (s.atTime t).completeRegistration

/-- FETCH_ANSWER (R150, R152, R154). -/
def execFetchAnswer (t : Time) (e : EntryId) (tag : Byte) (fetch : Nat) (a : MemAnswer) (s : State) :
    Host.Outcome State Fault Refusal :=
  .next ((s.atTime t).fetchAnswer e tag fetch a).finish

/-- FETCH_TIMEOUT (R153). -/
def execFetchTimeout (t : Time) (e : EntryId) (s : State) : Host.Outcome State Fault Refusal :=
  .next ((s.atTime t).fetchTimeout e).finish

/-- VIEW_READ_COMPLETION (R151). -/
def execViewReadCompletion (t : Time) (e : EntryId) (s : State) : Host.Outcome State Fault Refusal :=
  .next ((s.atTime t).completeRead e).finish

/-- PORT_RESET (R19). -/
def execPortReset (t : Time) (s : State) : Host.Outcome State Fault Refusal := .next (s.atTime t).portReset

/-- AGENT_WRITE_ANSWER (R169). -/
def execAgentWriteAnswer (t : Time) (write : Nat) (err : Bool) (s : State) : Host.Outcome State Fault Refusal :=
  .next ((s.atTime t).agentWriteAnswer write err)

end Sys2Proof.Machine
end

