-- ==== Sys2Proof/Machine/Dispatch.lean ====
section
/-! DEFINITION. One arm per command: each a direct call of its meaning. No command is left without one. -/

namespace Sys2Proof.Machine

/-- The effect of a command on everything but the queue of waiting commands. -/
def exec (i : Instr) (s : State) : Host.Outcome State Fault Refusal :=
  match i with
  | .upstreamTransaction t x => Sys2Proof.Machine.execUpstreamTransaction t x s
  | .memoryAnswer t place a => Sys2Proof.Machine.execMemoryAnswer t place a s
  | .livenessExpiry t m => Sys2Proof.Machine.execLivenessExpiry t m s
  | .registrationCompletion t => Sys2Proof.Machine.execRegistrationCompletion t s
  | .fetchAnswer t e tag fetch a => Sys2Proof.Machine.execFetchAnswer t e tag fetch a s
  | .fetchTimeout t e => Sys2Proof.Machine.execFetchTimeout t e s
  | .viewReadCompletion t e => Sys2Proof.Machine.execViewReadCompletion t e s
  | .configureModule t q m owner width height stride start staleLimit => Sys2Proof.Machine.execConfigureModule t q m owner width height stride start staleLimit s
  | .enableModule t q m => Sys2Proof.Machine.execEnableModule t q m s
  | .disableModule t q m => Sys2Proof.Machine.execDisableModule t q m s
  | .resetModule t q m => Sys2Proof.Machine.execResetModule t q m s
  | .loadSlots t q m buffer countLess1 => Sys2Proof.Machine.execLoadSlots t q m buffer countLess1 s
  | .loadSlotsEnd t serial answers buf => Sys2Proof.Machine.execLoadSlotsEnd t serial answers buf s
  | .holdFrame t q m => Sys2Proof.Machine.execHoldFrame t q m s
  | .releaseHold t q m ticket => Sys2Proof.Machine.execReleaseHold t q m ticket s
  | .dumpSlots t q m buffer => Sys2Proof.Machine.execDumpSlots t q m buffer s
  | .dumpSlotsEnd t serial answers issued => Sys2Proof.Machine.execDumpSlotsEnd t serial answers issued s
  | .loadCalibration t q m buffer => Sys2Proof.Machine.execLoadCalibration t q m buffer s
  | .loadCalibrationEnd t serial answers buf => Sys2Proof.Machine.execLoadCalibrationEnd t serial answers buf s
  | .setField t q fieldWidth zmin zmax => Sys2Proof.Machine.execSetField t q fieldWidth zmin zmax s
  | .zoomTo t q target rate => Sys2Proof.Machine.execZoomTo t q target rate s
  | .forceModule t q m => Sys2Proof.Machine.execForceModule t q m s
  | .releaseForce t q => Sys2Proof.Machine.execReleaseForce t q s
  | .setHandoff t q hysteresis fade relax prepare tolerance quality => Sys2Proof.Machine.execSetHandoff t q hysteresis fade relax prepare tolerance quality s
  | .freeze t q => Sys2Proof.Machine.execFreeze t q s
  | .thaw t q => Sys2Proof.Machine.execThaw t q s
  | .configureView t q v width height stride start timeout => Sys2Proof.Machine.execConfigureView t q v width height stride start timeout s
  | .enableView t q v => Sys2Proof.Machine.execEnableView t q v s
  | .disableView t q v => Sys2Proof.Machine.execDisableView t q v s
  | .clearEvents t q mask => Sys2Proof.Machine.execClearEvents t q mask s
  | .setAttention t q mask => Sys2Proof.Machine.execSetAttention t q mask s
  | .resetAll t q => Sys2Proof.Machine.execResetAll t q s
  | .portReset t => Sys2Proof.Machine.execPortReset t s
  | .agentWriteAnswer t write err => Sys2Proof.Machine.execAgentWriteAnswer t write err s

end Sys2Proof.Machine
end

