-- ==== Sys2Proof/WellFormed.lean ====
section
/-! DEFINITION. Which commands are well formed as syntax. Ranges that a type already keeps (requester, length, module,
entry) need no check; the arguments of a command cell are any values of their width (R170). -/

namespace Sys2Proof

/-- "No transaction crosses a 4 KiB boundary" (1.1), and the address space is 64 bits wide. `exec` still gives a
crossing transaction its meaning: R7 refuses it. -/
def Transaction.wf (x : Transaction) : Bool :=
  decide (x.address.toNat % 4096 + x.len ≤ 4096)

/-- The check of a command: an upstream transaction lies in one page; every other operand is well formed by type. -/
def Instr.wf : Instr → Bool
  | .upstreamTransaction _ x => x.wf
  | .memoryAnswer _ _ _ => true
  | .livenessExpiry _ _ => true
  | .registrationCompletion _ => true
  | .fetchAnswer _ _ _ _ _ => true
  | .fetchTimeout _ _ => true
  | .viewReadCompletion _ _ => true
  | .configureModule _ _ _ _ _ _ _ _ _ => true
  | .enableModule _ _ _ => true
  | .disableModule _ _ _ => true
  | .resetModule _ _ _ => true
  | .loadSlots _ _ _ _ _ => true
  | .loadSlotsEnd _ _ _ _ => true
  | .holdFrame _ _ _ => true
  | .releaseHold _ _ _ _ => true
  | .dumpSlots _ _ _ _ => true
  | .dumpSlotsEnd _ _ _ _ => true
  | .loadCalibration _ _ _ _ => true
  | .loadCalibrationEnd _ _ _ _ => true
  | .setField _ _ _ _ _ => true
  | .zoomTo _ _ _ _ => true
  | .forceModule _ _ _ => true
  | .releaseForce _ _ => true
  | .setHandoff _ _ _ _ _ _ _ _ => true
  | .freeze _ _ => true
  | .thaw _ _ => true
  | .configureView _ _ _ _ _ _ _ _ => true
  | .enableView _ _ _ => true
  | .disableView _ _ _ => true
  | .clearEvents _ _ _ => true
  | .setAttention _ _ _ => true
  | .resetAll _ _ => true
  | .portReset _ => true
  | .agentWriteAnswer _ _ _ => true

end Sys2Proof
end

