-- ==== Sys2Proof/Safety.lean ====
section
/-! DEFINITION. What a safe state of the block is: the laws of the device that the manual states, as predicates on State,
and the words the statements use. -/

namespace Sys2Proof.Machine

/-! ### Commands of the cell (R174) -/

/-- The command a row of the command cell stands for, with its sequence word (log 4). -/
def cellCommand : Instr → Option (Word × Command)
  | .configureModule _ q m o w h d a l => some (q, .configureModule m o w h d a l)
  | .enableModule _ q m => some (q, .enableModule m)
  | .disableModule _ q m => some (q, .disableModule m)
  | .resetModule _ q m => some (q, .resetModule m)
  | .loadSlots _ q m b n => some (q, .loadSlots m b n)
  | .holdFrame _ q m => some (q, .holdFrame m)
  | .releaseHold _ q m k => some (q, .releaseHold m k)
  | .dumpSlots _ q m b => some (q, .dumpSlots m b)
  | .loadCalibration _ q m b => some (q, .loadCalibration m b)
  | .setField _ q w lo hi => some (q, .setField w lo hi)
  | .zoomTo _ q z r => some (q, .zoomTo z r)
  | .forceModule _ q m => some (q, .forceModule m)
  | .releaseForce _ q => some (q, .releaseForce)
  | .setHandoff _ q h f l p d u => some (q, .setHandoff h f l p d u)
  | .freeze _ q => some (q, .freeze)
  | .thaw _ q => some (q, .thaw)
  | .configureView _ q v w h d a l => some (q, .configureView v w h d a l)
  | .enableView _ q v => some (q, .enableView v)
  | .disableView _ q v => some (q, .disableView v)
  | .clearEvents _ q k => some (q, .clearEvents k)
  | .setAttention _ q k => some (q, .setAttention k)
  | .resetAll _ q => some (q, .resetAll)
  | .upstreamTransaction _ _ => none
  | .memoryAnswer _ _ _ => none
  | .livenessExpiry _ _ => none
  | .registrationCompletion _ => none
  | .fetchAnswer _ _ _ _ _ => none
  | .fetchTimeout _ _ => none
  | .viewReadCompletion _ _ => none
  | .loadSlotsEnd _ _ _ _ => none
  | .dumpSlotsEnd _ _ _ _ => none
  | .loadCalibrationEnd _ _ _ _ => none
  | .portReset _ => none
  | .agentWriteAnswer _ _ _ => none

/-- The time count at the event of a command (log 1). -/
def eventTime : Instr → Time
  | .configureModule t _ _ _ _ _ _ _ _ => t
  | .enableModule t _ _ => t
  | .disableModule t _ _ => t
  | .resetModule t _ _ => t
  | .loadSlots t _ _ _ _ => t
  | .holdFrame t _ _ => t
  | .releaseHold t _ _ _ => t
  | .dumpSlots t _ _ _ => t
  | .loadCalibration t _ _ _ => t
  | .setField t _ _ _ _ => t
  | .zoomTo t _ _ _ => t
  | .forceModule t _ _ => t
  | .releaseForce t _ => t
  | .setHandoff t _ _ _ _ _ _ _ => t
  | .freeze t _ => t
  | .thaw t _ => t
  | .configureView t _ _ _ _ _ _ _ => t
  | .enableView t _ _ => t
  | .disableView t _ _ => t
  | .clearEvents t _ _ => t
  | .setAttention t _ _ => t
  | .resetAll t _ => t
  | .upstreamTransaction t _ => t
  | .memoryAnswer t _ _ => t
  | .livenessExpiry t _ => t
  | .registrationCompletion t => t
  | .fetchAnswer t _ _ _ _ => t
  | .fetchTimeout t _ => t
  | .viewReadCompletion t _ => t
  | .loadSlotsEnd t _ _ _ => t
  | .dumpSlotsEnd t _ _ _ => t
  | .loadCalibrationEnd t _ _ _ => t
  | .portReset t => t
  | .agentWriteAnswer t _ _ => t

/-- A 32-bit argument as it stands in the cell. -/
def arg32 (a : Word) : List Byte := leBytes 4 a.toNat

/-- An address argument as it stands in the cell. -/
def arg64 (a : Addr) : List Byte := leBytes 8 a.toNat

/-- The arguments of a command from offset 4 of the cell on, as R174 lays them out. -/
def cellArgs : Command → List Byte
  | .configureModule m o w h d a l => arg32 m ++ arg32 o ++ arg32 w ++ arg32 h ++ arg32 d ++ arg64 a ++ arg32 l
  | .enableModule m => arg32 m
  | .disableModule m => arg32 m
  | .resetModule m => arg32 m
  | .loadSlots m b n => arg32 m ++ arg64 b ++ arg32 n
  | .holdFrame m => arg32 m
  | .releaseHold m k => arg32 m ++ arg32 k
  | .dumpSlots m b => arg32 m ++ arg64 b
  | .loadCalibration m b => arg32 m ++ arg64 b
  | .setField w lo hi => arg32 w ++ arg32 lo ++ arg32 hi
  | .zoomTo z r => arg32 z ++ arg32 r
  | .forceModule m => arg32 m
  | .releaseForce => []
  | .setHandoff h f l p d u => arg32 h ++ arg32 f ++ arg32 l ++ arg32 p ++ arg32 d ++ arg32 u
  | .freeze => []
  | .thaw => []
  | .configureView v w h d a l => arg32 v ++ arg32 w ++ arg32 h ++ arg32 d ++ arg64 a ++ arg32 l
  | .enableView v => arg32 v
  | .disableView v => arg32 v
  | .clearEvents k => arg32 k
  | .setAttention k => arg32 k
  | .resetAll => []

/-- The 64 bytes of the command cell that hold a command with its sequence word (R174): the kind at offset 0, the
arguments from offset 4, the sequence word at 60. -/
def cellBytes (q : Word) (c : Command) : List Byte :=
  leBytes 2 c.kind ++ zeros 2 ++ cellArgs c ++ zeros (56 - (cellArgs c).length) ++ leBytes 4 q.toNat

/-- What the block that owns an immediate command does with it and answers (R158, R159); a time-taking command and
RESET_ALL are none of these. -/
def Command.immediate : Command → State → Option Ended
  | .configureModule m o w h d a l, s => some (cmdConfigureModule m o w h d a l s)
  | .enableModule m, s => some (cmdEnableModule m s)
  | .disableModule m, s => some (cmdDisableModule m s)
  | .resetModule m, s => some (cmdResetModule m s)
  | .loadSlots _ _ _, _ => none
  | .holdFrame m, s => some (cmdHoldFrame m s)
  | .releaseHold m k, s => some (cmdReleaseHold m k s)
  | .dumpSlots _ _, _ => none
  | .loadCalibration _ _, _ => none
  | .setField w lo hi, s => some (cmdSetField w lo hi s)
  | .zoomTo z r, s => some (cmdZoomTo z r s)
  | .forceModule m, s => some (cmdForceModule m s)
  | .releaseForce, s => some (cmdReleaseForce s)
  | .setHandoff h f l p d u, s => some (cmdSetHandoff h f l p d u s)
  | .freeze, s => some (cmdFreeze s)
  | .thaw, s => some (cmdThaw s)
  | .configureView v w h d a l, s => some (cmdConfigureView v w h d a l s)
  | .enableView v, s => some (cmdEnableView v s)
  | .disableView v, s => some (cmdDisableView v s)
  | .clearEvents k, s => some (cmdClearEvents k s)
  | .setAttention k, s => some (cmdSetAttention k s)
  | .resetAll, _ => none

/-! ### Registration (R114 to R118) -/

/-- R114, R116 to R118 for one axis with serving bins `S` and incoming bins `I`. The bins 8 to 55 of S are compared with
those of I at each shift -8 to +8, a shift with 24 or more pairs of valid means has a norm, and `x` says what follows from
the norms: too few bins where no shift has one; else the shift of least norm, of least magnitude among equals and negative
before positive, refused where its norm is above 48 times the quality limit, with the parabola's fraction otherwise. -/
def AxisFits (S I : Vector Bin 64) (gRel quality : Nat) (x : Except AxisFailure AxisFit) : Prop :=
  let mean := fun b : Bin => if b.count = 0 then none else some ((32 * b.sum + b.count) / (2 * b.count))
  let mS := fun i : Nat => S[i]?.bind mean
  let mI := fun i : Nat => (I[i]?.bind mean).map fun m => (m * gRel + 8192) / 16384
  let differences := fun s : Int => (List.range 48).filterMap fun j =>
    (mS (j + 8)).bind fun a => (mI ((j : Int) + 8 + s).toNat).map fun b => max a b - min a b
  let norm := fun s : Int =>
    let d := differences s
    if 24 ≤ d.length then some ((2 * (d.sum * 48) + d.length) / (2 * d.length)) else none
  ((∀ s, -8 ≤ s → s ≤ 8 → norm s = none) → x = .error .tooFewBins)
    ∧ ∀ s n, -8 ≤ s → s ≤ 8 → norm s = some n →
      (∀ s' n', -8 ≤ s' → s' ≤ 8 → norm s' = some n' →
        n < n' ∨ n = n' ∧ (s.natAbs < s'.natAbs ∨ s.natAbs = s'.natAbs ∧ s ≤ s')) →
      (48 * quality < n → x = .error (.quality n))
      ∧ (n ≤ 48 * quality →
        ((s = -8 ∨ s = 8 ∨ norm (s - 1) = none ∨ norm (s + 1) = none) →
          x = .ok { shift := s, frac := 0, edge := true, norm := n })
        ∧ ∀ a b : Nat, -8 < s → s < 8 → norm (s - 1) = some a → norm (s + 1) = some b →
          let den : Int := a - 2 * n + b
          (den ≤ 0 → x = .ok { shift := s, frac := 0, edge := false, norm := n })
          ∧ (0 < den →
            x = .ok
              { shift := s
                frac := max (-128) (min 128 (roundHalfAway (128 * ((a : Int) - b)) den.toNat))
                edge := false, norm := n }))

/-! ### Laws of the device -/

/-- R166: attention is high exactly when some event kind is flagged and enabled in the attention mask. -/
def AttentionLaw (s : State) : Prop :=
  s.agent.attention = true ↔ ∃ n : Fin 16, s.agent.events[n].flag = true ∧ s.agent.mask.getLsbD n.val = true

/-- R163, R165: a count lies in 0 to 255, a kind is flagged exactly when its count is not 0, and an unflagged kind has a
zero detail. -/
def EventLaw (s : State) : Prop :=
  ∀ n : Fin 16, s.agent.events[n].count ≤ 255 ∧ (s.agent.events[n].flag = true ↔ 0 < s.agent.events[n].count)
    ∧ (s.agent.events[n].flag = false → s.agent.events[n].detail = .zero)

/-- A luma gain in its range (R89). -/
def gainOk (g : Nat) : Prop := 4096 ≤ g ∧ g ≤ 65535

/-- R89: every module's luma gain lies in 4096 to 65535; so do the gain relaxation began from and the gain published. -/
def GainLaw (s : State) : Prop :=
  ∀ m : ModuleId, gainOk s.ctl.mods[m].gain ∧ gainOk s.ctl.mods[m].relaxStart ∧ gainOk s.ctl.published.mods[m].gain

/-- The hand-off parameters in their ranges (R104). -/
def HandoffParams.inRange (p : HandoffParams) : Prop :=
  p.hysteresis ≤ 65536 ∧ 1 ≤ p.fade ∧ p.fade ≤ 64 ∧ p.relax ≤ 255 ∧ 1 ≤ p.prepare ∧ p.prepare ≤ 32
    ∧ p.tolerance ≤ 65535 ∧ p.quality ≤ 16368

/-- R88, R91: the hand-off state with its counters. Alpha and k are 0 outside FADING, S and I are two modules, a fade
stands at a step k from 1 to N_f - 1 with the level of that step, and a preparation has counted less than 32. -/
def HandoffLaw (s : State) : Prop :=
  s.ctl.params.inRange ∧ (∀ p, s.ctl.pendingParams = some p → p.inRange)
    ∧ 1 ≤ s.ctl.fadeInUse ∧ s.ctl.fadeInUse ≤ 64 ∧ s.ctl.prepareCounter ≤ 32
    ∧ match s.ctl.phase with
      | .starved _ => s.ctl.alpha = 0 ∧ s.ctl.k = 0 ∧ s.ctl.direction = .forward
      | .steady _ => s.ctl.alpha = 0 ∧ s.ctl.k = 0 ∧ s.ctl.direction = .forward
      | .preparing sm im =>
        sm ≠ im ∧ s.ctl.alpha = 0 ∧ s.ctl.k = 0 ∧ s.ctl.direction = .forward ∧ s.ctl.prepareCounter < 32
      | .fading sm im =>
        sm ≠ im ∧ 1 ≤ s.ctl.k ∧ s.ctl.k < s.ctl.fadeInUse ∧ s.ctl.alpha = fadeLevel s.ctl.k s.ctl.fadeInUse

/-- The field parameters in their ranges, the lower limit below the upper (R56, R59). -/
def Field.inRange (f : Field) : Prop :=
  256 ≤ f.width ∧ f.width ≤ 16384 ∧ 16384 ≤ f.zmin ∧ f.zmin < f.zmax ∧ f.zmax ≤ 4194304

/-- R73: Zq and Zt lie within the limits in use, the rate in its range, and where no ramp is open the zoom stands at its
target (R79). -/
def ZoomLaw (s : State) : Prop :=
  s.ctl.field.inRange ∧ (∀ f, s.ctl.pendingField = some f → f.inRange)
    ∧ s.ctl.field.zmin ≤ s.ctl.zq ∧ s.ctl.zq ≤ s.ctl.field.zmax
    ∧ s.ctl.field.zmin ≤ s.ctl.zt ∧ s.ctl.zt ≤ s.ctl.field.zmax
    ∧ 65536 ≤ s.ctl.rate ∧ s.ctl.rate ≤ 131072 ∧ (s.ctl.rampOpen = false → s.ctl.zq = s.ctl.zt)
    ∧ (∀ z, s.ctl.pendingZoom = some z →
        16384 ≤ z.target ∧ z.target ≤ 4194304 ∧ 65536 ≤ z.rate ∧ z.rate ≤ 131072)

/-- One module's slots against its tracker (R21, R39, R40, R42): the ready list holds each READY slot exactly once, the
fill slot is the one FILLING slot, a slot that is not READY has no holder, and the slot count is 0 or 2 to 8. -/
def slotsLawful (ms : ModuleSlots) (t : Tracker) : Prop :=
  ms.ready.Nodup ∧ (∀ i ∈ ms.ready, i < ms.slots.length)
    ∧ (∀ i : Fin ms.slots.length,
        (i.val ∈ ms.ready ↔ ms.slots[i].isReady = true)
          ∧ (t.capture.fillSlot = some i.val ↔ ms.slots[i].isFilling = true)
          ∧ (ms.slots[i].isReady = false → ms.slots[i].holders = noHolders))
    ∧ (∀ i, t.capture.fillSlot = some i → i < ms.slots.length)
    ∧ (ms.slots.length = 0 ∨ (2 ≤ ms.slots.length ∧ ms.slots.length ≤ 8))

/-- A tracker's capture state and liveness against its record (R21, R22): DISABLED exactly while not enabled, and a
disabled module is STALE. -/
def trackerLawful (t : Tracker) : Prop :=
  (t.capture = .disabled ↔ t.record.enabled = false) ∧ (t.record.enabled = false → t.deadline = none)

/-- The module and entry count a LOAD_SLOTS in flight will load. -/
def InFlightOp.loads : InFlightOp → Option (ModuleId × Nat)
  | .loadSlots m _ n => some (m, n)
  | .dumpSlots _ _ _ => none
  | .loadCalibration _ _ => none

/-- The slots and trackers of all modules, and a LOAD_SLOTS in flight: its module stays disabled (R49). -/
def SlotLaw (s : State) : Prop :=
  (∀ m : ModuleId, slotsLawful s.store.mods[m] s.trackers[m] ∧ trackerLawful s.trackers[m])
    ∧ ∀ f, s.agent.inFlight = some f → ∀ m n, f.op.loads = some (m, n) →
        s.trackers[m].record.enabled = false ∧ 2 ≤ n ∧ n ≤ 8

/-- Whether a window is ACTIVE (R3). -/
def Window.isActive : Window → Bool
  | .active _ => true
  | .configured _ => false
  | .unconfigured => false

/-- R3, R20, R125: a window has a start exactly while its module or view is configured, and is ACTIVE exactly while it is
enabled; an enabled module or view is configured. -/
def WindowLaw (s : State) : Prop :=
  (∀ m : ModuleId, (s.path.captureWindows[m].isActive = s.trackers[m].record.enabled)
      ∧ (s.path.captureWindows[m].extent.isSome = s.trackers[m].record.configured))
    ∧ ∀ v : ViewId, (s.path.viewWindows[v].isActive = s.comp.views[v].enabled)
      ∧ (s.path.viewWindows[v].extent.isSome = s.comp.views[v].configured)

/-- The extents of the configured windows, the control page and the loaded slots. -/
def State.extents (s : State) : List Extent :=
  s.windows.map (·.2) ++ [controlExtent s.cfg] ++ (s.slotExtents none).map (·.2)

/-- The law of R4: no two of the configured windows, the control page and the loaded slot extents overlap, and all of them
lie within the carve-out; each is made of whole pages (R2, R39). -/
def LayoutLaw (s : State) : Prop :=
  s.cfg.wf = true
    ∧ (∀ e ∈ s.extents, insideCarve s.cfg e.start e.size = true ∧ e.start % 4096 = 0 ∧ e.size % 4096 = 0)
    ∧ s.extents.Pairwise fun a b => a.overlaps b = false

/-- A read in the view read table (R145, R149): at most 64 fetches outstanding, none waiting while fewer are, all of
different identities already given out; FETCHING with some outstanding, COMPLETE with none, WAITING_OPEN with neither,
and a read of an output frame not yet open is WAITING_OPEN. -/
def readLawful (serial : Nat) (r : ReadEntry) : Prop :=
  r.outstanding.length ≤ 64 ∧ (r.toIssue ≠ [] → r.outstanding.length = 64)
    ∧ (r.outstanding.map (·.id)).Nodup ∧ (∀ f ∈ r.outstanding, f.id < serial)
    ∧ (r.state = .fetching → r.outstanding ≠ []) ∧ (r.state = .complete → r.outstanding = [])
    ∧ (r.state = .waitingOpen → r.outstanding = [] ∧ r.toIssue = [])
    ∧ (∀ place, r.frame = .awaiting place → r.state = .waitingOpen)

/-- Every entry in use is lawful. -/
def FetchLaw (s : State) : Prop :=
  ∀ e : EntryId, ∀ r, s.comp.table[e].read = some r → readLawful s.serial r

/-- R161: the progress of the command in flight. It has an answer or none for each of its accesses, an access is issued
before it is answered, in the order of the accesses, and at least one is not yet answered; an answered read has brought its
8 bytes. -/
def ProgressLaw (s : State) : Prop :=
  ∀ f, s.agent.inFlight = some f →
    f.progress.answers.length = f.op.accesses ∧ f.progress.issued ≤ f.op.accesses
      ∧ (∀ j x, f.progress.answers[j]? = some (some x) →
          j < f.progress.issued ∧ (f.op.kind ≠ 8 → x.length = 8))
      ∧ ∃ j : Nat, f.progress.answers[j]? = some none

/-- R17: no requester's oldest transaction has a ready answer, since a ready answer at the head is returned at once. -/
def QueueLaw (s : State) : Prop :=
  ∀ r : Byte, ∀ e, s.path.queue.find? (·.requester == r) = some e → e.answer = none

end Sys2Proof.Machine
end

