-- ==== Sys2Proof/Certificates/Slice0/Obligations.lean ====
section
/-! DEFINITION. The statements for the provers. `s.atTime t` is the state with the time count read at the event; every
command writes its status record by `State.writeStatus` and, where R167 says so, the snapshot before it. -/

open Sys2Proof Sys2Proof.Machine

/-! ### The machine -/

/-- A step takes the command at the front of the queue and is exec of it on the state with the queue's rest. On an empty
queue the step changes nothing: that clause is the model's choice (log 1), no rule's. -/
def Obligations.StepRunsFrontCommand : Prop :=
  (∀ (c : Instr) (cs : List Instr) (s : State), step { s with pending := c :: cs } = exec c { s with pending := cs })
    ∧ ∀ s : State, s.pending = [] → step s = .next s

/-- Every command answers a next state, whatever the state; it leaves the waiting commands and the integration
parameters, reads the time count it carries, and never takes back a serial number. -/
def Obligations.ExecKeepsQueueAndConfig : Prop :=
  ∀ (c : Instr) (s : State), ∃ s', exec c s = .next s' ∧ s'.pending = s.pending ∧ s'.cfg = s.cfg
    ∧ s'.time = eventTime c ∧ s.serial ≤ s'.serial

/-- The block right after reset meets every law. -/
def Obligations.ResetMeetsTheLaws : Prop :=
  AttentionLaw State.reset ∧ EventLaw State.reset ∧ GainLaw State.reset ∧ HandoffLaw State.reset
    ∧ ZoomLaw State.reset ∧ SlotLaw State.reset ∧ WindowLaw State.reset ∧ LayoutLaw State.reset
    ∧ FetchLaw State.reset ∧ ProgressLaw State.reset ∧ QueueLaw State.reset

/-! ### Laws that every step keeps -/

/-- R163, R165, R166: every step keeps the law of the attention line, and the law of flags, counts and details. -/
def Obligations.EventAndAttentionLawsKept : Prop :=
  (∀ s s' : State, AttentionLaw s → step s = .next s' → AttentionLaw s')
    ∧ ∀ s s' : State, EventLaw s → step s = .next s' → EventLaw s'

/-- R89: every step keeps every gain in 4096 to 65535. -/
def Obligations.GainLawKept : Prop := ∀ s s' : State, GainLaw s → step s = .next s' → GainLaw s'

/-- R88, R91: every step keeps the hand-off state lawful. -/
def Obligations.HandoffLawKept : Prop := ∀ s s' : State, HandoffLaw s → step s = .next s' → HandoffLaw s'

/-- R73: every step keeps the zoom within the limits in use. -/
def Obligations.ZoomLawKept : Prop := ∀ s s' : State, ZoomLaw s → step s = .next s' → ZoomLaw s'

/-- R21, R40, R42: every step keeps slots, ready lists and fill slots in accord. -/
def Obligations.SlotLawKept : Prop := ∀ s s' : State, SlotLaw s → step s = .next s' → SlotLaw s'

/-- R3, R20, R125 and the law of R4: every step keeps windows in accord with their modules and views, and keeps windows,
control page and slots apart and inside the carve-out. -/
def Obligations.WindowLawsKept : Prop :=
  (∀ s s' : State, WindowLaw s → step s = .next s' → WindowLaw s')
    ∧ ∀ s s' : State, LayoutLaw s → step s = .next s' → LayoutLaw s'

/-- R145, R149, R161: every step keeps the view read table lawful, and the progress of the command in flight through its
memory accesses. -/
def Obligations.FetchLawKept : Prop :=
  (∀ s s' : State, FetchLaw s → step s = .next s' → FetchLaw s')
    ∧ ∀ s s' : State, ProgressLaw s → step s = .next s' → ProgressLaw s'

/-- R17: every step keeps each requester's oldest transaction unanswered while it is queued. -/
def Obligations.QueueLawKept : Prop := ∀ s s' : State, QueueLaw s → step s = .next s' → QueueLaw s'

/-! ### The command cell and the Agent -/

/-- R174: the 64 bytes that R174 lays out for a command and a sequence word are read back as that command and that
word. -/
def Obligations.CellDecodesItsLayout : Prop :=
  ∀ (q : Word) (c : Command),
    (cellBytes q c).length = 64 ∧ decodeCell (cellBytes q c) = some c ∧ cellSeq (cellBytes q c) = q

/-- R13, R157, R158: an upstream write of a whole command cell goes on to memory, is copied into the staging copy, and
in the same event the Agent takes the command that the cell lays out. Of any write into the control page, the bytes at
offsets 0 to 63 are copied, a write at offset 64 or above leaves the staging copy, and exactly a write that carries
offsets 60 to 63 triggers what the staging copy then holds. -/
def Obligations.CellWriteTakesCommand : Prop :=
  (∀ (t : Time) (x : Transaction) (q : Word) (c : Command) (s : State),
      s.cfg.wf = true → s.classify x = some .control → x.address.toNat = s.cfg.controlPage → x.len = 64 →
      isWrite x = true → writeBytes x = cellBytes q c → s.path.waiting = [] →
      let s1 := ((s.atTime t).enqueue x.requester).forward s.serial s.cfg.controlPage x
      let s2 := { s1 with agent := { s1.agent with staging := Vector.ofFn fun i => (cellBytes q c).getD i 0 } }
      exec (.upstreamTransaction t x) s = .next (s2.take q c).finish)
    ∧ ∀ (t : Time) (x : Transaction) (s : State),
      s.cfg.wf = true → s.classify x = some .control → isWrite x = true → s.path.waiting = [] →
      let off := x.address.toNat - s.cfg.controlPage
      let cell : Vector Byte 64 := Vector.ofFn fun i =>
        if off ≤ i.val ∧ i.val < off + x.len then (writeBytes x).getD (i.val - off) 0 else s.agent.staging[i]
      let s1 := ((s.atTime t).enqueue x.requester).forward s.serial x.address.toNat x
      let s2 := { s1 with agent := { s1.agent with staging := cell } }
      (64 ≤ off → cell = s.agent.staging)
      ∧ (off ≤ 60 → 64 ≤ off + x.len → exec (.upstreamTransaction t x) s = .next (s2.trigger cell.toList).finish)
      ∧ (60 < off ∨ off + x.len < 64 → exec (.upstreamTransaction t x) s = .next s2.finish)

/-- R158: while a command is in flight every other command but RESET_ALL is answered BUSY, with the kind and the sequence
word of the one in flight, and nothing else happens; a cell whose kind names no command changes nothing but the status
record, which says UNKNOWN_COMMAND with the kind field as detail, or BUSY. -/
def Obligations.CommandsNotTakenAreReported : Prop :=
  (∀ (i : Instr) (q : Word) (c : Command) (f : InFlight) (s : State),
      cellCommand i = some (q, c) → c ≠ .resetAll → s.agent.inFlight = some f →
      exec i s = .next ((s.atTime (eventTime i)).writeStatus q c.kind
        { outcome := .busy, d0 := f.op.kind, d1 := f.seq.toNat, d2 := 0 }))
    ∧ ∀ (cell : List Byte) (s : State), decodeCell cell = none →
      (s.agent.inFlight = none →
        s.trigger cell = s.writeStatus (cellSeq cell) (cellKind cell) (.one .unknownCommand (cellKind cell)))
      ∧ ∀ f, s.agent.inFlight = some f →
        s.trigger cell = s.writeStatus (cellSeq cell) (cellKind cell)
          { outcome := .busy, d0 := f.op.kind, d1 := f.seq.toNat, d2 := 0 }

/-- 2.8, R158, R159: an immediate command that is refused, with whatever outcome, changes nothing but the status record,
which holds its sequence word, kind, outcome and detail. A module number at or above the module count, and a view number
above 1, are refused with BAD_ARGUMENT; that its detail is then zero is the model's choice (log 10). -/
def Obligations.RefusedCommandsChangeNothing : Prop :=
  (∀ (i : Instr) (q : Word) (c : Command) (e : Ended) (s : State),
    cellCommand i = some (q, c) → s.agent.inFlight = none → c.immediate (s.atTime (eventTime i)) = some e →
    e.2.outcome ≠ .done → exec i s = .next ((s.atTime (eventTime i)).writeStatus q c.kind e.2))
  ∧ ∀ (m a b c d l q : Word) (p : Addr) (s : State),
    ((cmdConfigureModule m a b c d p l s).2.outcome ≠ .done → (cmdConfigureModule m a b c d p l s).1 = s)
    ∧ ((cmdEnableModule m s).2.outcome ≠ .done → (cmdEnableModule m s).1 = s)
    ∧ ((cmdDisableModule m s).2.outcome ≠ .done → (cmdDisableModule m s).1 = s)
    ∧ ((cmdResetModule m s).2.outcome ≠ .done → (cmdResetModule m s).1 = s)
    ∧ ((cmdHoldFrame m s).2.outcome ≠ .done → (cmdHoldFrame m s).1 = s)
    ∧ ((cmdReleaseHold m a s).2.outcome ≠ .done → (cmdReleaseHold m a s).1 = s)
    ∧ ((cmdSetField a b c s).2.outcome ≠ .done → (cmdSetField a b c s).1 = s)
    ∧ ((cmdForceModule m s).2.outcome ≠ .done → (cmdForceModule m s).1 = s)
    ∧ ((cmdConfigureView m a b c p d s).2.outcome ≠ .done → (cmdConfigureView m a b c p d s).1 = s)
    ∧ ((cmdEnableView m s).2.outcome ≠ .done → (cmdEnableView m s).1 = s)
    ∧ ((cmdDisableView m s).2.outcome ≠ .done → (cmdDisableView m s).1 = s)
    ∧ (cmdZoomTo a b s).2.outcome = .done ∧ (cmdReleaseForce s).2.outcome = .done
    ∧ (cmdSetHandoff a b c d l q s).2.outcome = .done ∧ (cmdFreeze s).2.outcome = .done
    ∧ (cmdThaw s).2.outcome = .done ∧ (cmdClearEvents a s).2.outcome = .done ∧ (cmdSetAttention a s).2.outcome = .done
    ∧ (s.cfg.modules.toNat ≤ m.toNat →
      (cmdConfigureModule m a b c d p l s).2 = .plain .badArgument ∧ (cmdEnableModule m s).2 = .plain .badArgument
        ∧ (cmdDisableModule m s).2 = .plain .badArgument ∧ (cmdResetModule m s).2 = .plain .badArgument
        ∧ (cmdHoldFrame m s).2 = .plain .badArgument ∧ (cmdReleaseHold m a s).2 = .plain .badArgument
        ∧ (cmdForceModule m s).2 = .plain .badArgument)
    ∧ (1 < m.toNat →
      (cmdConfigureView m a b c p d s).2 = .plain .badArgument ∧ (cmdEnableView m s).2 = .plain .badArgument
        ∧ (cmdDisableView m s).2 = .plain .badArgument)

/-- R163: a raise sets the flag of its kind, counts it up to 255, replaces its detail, writes its entry with what now
stands, sets attention, and changes nothing else; after a port reset and after RESET_ALL every kind is clear. -/
def Obligations.RaiseRecordsTheEvent : Prop :=
  (∀ (r : Raise) (s : State),
    let d : EventDetail :=
      { subject := r.subject, second := r.second, frame := r.frame, time := timeLow s.time, reason := r.reason
        advance := r.advance }
    let e : EventState := { flag := true, count := min (s.agent.events[r.kind.index].count + 1) 255, detail := d }
    let events := s.agent.events.set r.kind.index e
    s.raise r =
      { s with
        agent :=
          { s.agent with
            events := events
            attention := decide (∃ n : Fin 16, events[n].flag = true ∧ s.agent.mask.getLsbD n.val = true)
            writes := s.agent.writes ++
              [{ address := s.cfg.controlPage + 128 + 16 * r.kind.index.val, bytes := eventBytes e
                 answered := none }] } })
    ∧ (∀ (rs : List Raise) (r : Raise) (s : State), s.raiseAll (rs ++ [r]) = (s.raiseAll rs).raise r)
    ∧ ∀ (q : Word) (s : State) (n : Fin 16),
        s.portReset.agent.events[n] = { flag := false, count := 0, detail := .zero }
          ∧ (s.resetAll q).agent.events[n] = { flag := false, count := 0, detail := .zero }

/-- R165, R166: CLEAR_EVENTS clears the kinds its low 16 bits name and no other, rewrites their entries, sets attention,
and answers the mask of the named kinds that were flagged; SET_ATTENTION replaces the mask by the low 16 bits of its
argument, sets the line, and answers the new mask. That the entries are rewritten in increasing order is the model's
choice (log 17). -/
def Obligations.EventCommandsTake : Prop :=
  (∀ (t : Time) (q mask : Word) (s : State), s.agent.inFlight = none →
      ∃ a : Agent,
        exec (.clearEvents t q mask) s =
          .next (({ s.atTime t with agent := a } : State).writeStatus q 20
            (.one .done (flaggedMask s.agent.events (mask.setWidth 16))))
        ∧ (∀ n : Fin 16, a.events[n] = if mask.getLsbD n.val then .clear else s.agent.events[n])
        ∧ (a.attention = true ↔ ∃ n : Fin 16, a.events[n].flag = true ∧ a.mask.getLsbD n.val = true)
        ∧ a.writes = s.agent.writes ++ (allKinds.filter fun n => mask.getLsbD n.val).map (fun n =>
            { address := s.cfg.controlPage + (128 + 16 * n.val), bytes := eventBytes .clear, answered := none })
        ∧ a.staging = s.agent.staging ∧ a.inFlight = none ∧ a.mask = s.agent.mask
        ∧ a.snapshotCount = s.agent.snapshotCount ∧ a.dumpWrites = s.agent.dumpWrites)
    ∧ ∀ (t : Time) (q mask : Word) (s : State), s.agent.inFlight = none →
        let k : BitVec 16 := BitVec.ofNat 16 (mask.toNat % 65536)
        exec (.setAttention t q mask) s =
          .next (({ s.atTime t with
              agent :=
                { s.agent with
                  mask := k
                  attention := decide (∃ n : Fin 16, s.agent.events[n].flag = true ∧ k.getLsbD n.val = true) } } :
              State).writeStatus q 21 (.one .done (mask.toNat % 65536)))

/-- R2, R20 to R22, R38, R39, R56, R57, R73, R80 to R82, R88 to R90, R104, R111, R125, R130, R144, R145, R155, R157, R162,
R163, R166 to R168: what RESET_ALL, taken even with a command in flight, and PORT_RESET leave, with every reset value of
every block written out. Both mark the outstanding fetches withdrawn and write the start record: the whole event summary
clear, the snapshot of the reset state with count 0, the status record. RESET_ALL answers the reads of the table with
errors and keeps the forwarded transactions and the answer queues (R19); PORT_RESET, from any state, loses every accepted
transaction. That PORT_RESET and its start record are one event, that what waits at the port is lost too and that the
traces of what was returned and written are kept are the model's choices (log 15); how much of an aborted dump the trace
holds is a free value (log 14). -/
def Obligations.ResetAllResets : Prop :=
  let trackers : Vector Tracker 4 :=
    Vector.replicate 4
      { record :=
          { configured := false, enabled := false, owner := 0, width := 0, height := 0, stride := 0, staleLimit := 0
            lastTrailer := 0 }
        capture := .disabled
        deadline := none }
  let store : SlotStore :=
    { mods := Vector.replicate 4 { slots := [], ready := [], tickets := Vector.replicate 2 none }, closeOrder := 0 }
  let calibration : Calibration := { scale := 65536, cx := 0, cy := 0, lo := 16384, hi := 4194304, parallax := [] }
  let ctl : Controller :=
    { field := { width := 4096, zmin := 32768, zmax := 1966080 }, pendingField := none
      zq := 65536, zt := 65536, rate := 65536, rampOpen := false, pendingZoom := none
      forced := none, pendingForce := none, candidate := none
      phase := .starved none, direction := .forward, k := 0, fadeInUse := 8, alpha := 0, unrefined := false
      generation := 0, prepareCounter := 0, frozen := false
      params := { hysteresis := 6554, fade := 8, relax := 30, prepare := 6, tolerance := 8000, quality := 480 }
      pendingParams := none
      mods :=
        Vector.replicate 4
          { calibration := calibration, pendingCalibration := none, gain := 16384, relaxStart := 16384, relaxStep := 0
            rx := 0, ry := 0, rect := none, barred := false, resetMark := false }
      published :=
        { phase := .starved none, alpha := 0, direction := .forward, unrefined := false, frozen := false, zq := 65536
          field := { width := 4096, zmin := 32768, zmax := 1966080 }
          mods := Vector.replicate 4 { gain := 16384, rx := 0, ry := 0, calibration := calibration } } }
  let reg : Registration := { context := none, last := none }
  let comp := fun s : State =>
    ({ views :=
         Vector.replicate 2
           { configured := false, enabled := false, width := 0, height := 0, stride := 0, timeout := 0, counter := 0
             openedSinceEnable := false, unopenedReported := false, frameA := none, frameB := none }
       table := Vector.replicate 16 { tag := 0, read := none }
       withdrawn := s.comp.withdrawn ++ (List.finRange 16).flatMap fun e =>
         (s.comp.table[e].read.elim [] (·.outstanding)).map fun f =>
           { entry := e, tag := s.comp.table[e].tag, id := f.id } } : Composer)
  let agent := fun (t : Time) (kind detail : Nat) (s : State) =>
    ({ staging := Vector.replicate 64 0, inFlight := none
       events :=
         Vector.replicate 16
           { flag := false, count := 0, detail := { subject := 0, second := 0, frame := 0, time := 0, reason := 0, advance := none } }
       mask := 0, attention := false, snapshotCount := 0
       dumpWrites := s.agent.dumpWrites ++ s.agent.abortedDump
       writes := s.agent.writes ++
         [{ address := s.cfg.controlPage + 128, bytes := List.replicate 256 0, answered := none },
          { address := s.cfg.controlPage + 512
            bytes := snapshotBytes s.cfg 0 .start (s.agent.writes.length + 1) t trackers ctl reg
            answered := none },
          { address := s.cfg.controlPage + 64, bytes := statusBytes 0 kind .done detail 0 0, answered := none }] } :
      Agent)
  (∀ (t : Time) (q : Word) (s : State), s.path.waiting = [] →
    let queue := s.path.queue.map fun e =>
      if s.comp.table.toList.any fun x => x.read.any (·.place == e.place) then { e with answer := some .error } else e
    exec (.resetAll t q) s =
      .next (({ s.atTime t with
          path :=
            { s.path with
              captureWindows := Vector.replicate 4 .unconfigured
              viewWindows := Vector.replicate 2 .unconfigured
              queue := queue }
          trackers := trackers, store := store, ctl := ctl, reg := reg, comp := comp s
          agent := agent t 22 q.toNat s } : State).deliver))
  ∧ ∀ (t : Time) (s : State),
    exec (.portReset t) s =
      .next { s.atTime t with
        path :=
          { captureWindows := Vector.replicate 4 .unconfigured, viewWindows := Vector.replicate 2 .unconfigured
            queue := [], downstream := [], waiting := [], returned := s.path.returned }
        trackers := trackers, store := store, ctl := ctl, reg := reg, comp := comp s
        agent := agent t 0 0 s }

/-- R19, R38, R88, R144, R155, R162, R168: PORT_RESET completes from every state. It loses every accepted transaction,
puts every block at its reset values and writes the start record. That the leaving of the reset is part of the same
event, that what waits at the port is lost too, and that the returned trace is kept, are the model's choices (log 15).
-/
def Obligations.PortResetResets : Prop :=
  ∀ (t : Time) (s : State),
    exec (.portReset t) s =
      .next { s.atTime t with
        path :=
          { captureWindows := Vector.replicate 4 .unconfigured, viewWindows := Vector.replicate 2 .unconfigured
            queue := [], downstream := [], waiting := [], returned := s.path.returned }
        trackers := Vector.replicate 4 .reset
        store := .reset
        ctl := .reset
        reg := .reset
        comp := { Composer.reset with withdrawn := s.comp.allWithdrawn }
        agent :=
          { Agent.reset with
            dumpWrites := s.agent.dumpWrites ++ s.agent.abortedDump
            writes := s.agent.writes ++
              startRecord s.cfg s.agent.writes.length t (Vector.replicate 4 .reset) .reset .reset 0 0 } }

/-! ### Module commands -/

/-- The check of R4 and R5 says what those rules say: it passes a window exactly when all its bytes lie in the carve-out
and none lies in another configured window, the control page or a loaded slot of a module other than its own. A window
with a byte outside the carve-out is OUT_OF_CARVE with its own index; any other that is refused is OVERLAP with its own
index and what was hit, the first of: another window by its index, the control page, a slot by its place in the slot
table (R175). -/
def Obligations.WindowCheckIsExact : Prop :=
  ∀ (s : State) (index : Nat) (but : Option ModuleId) (e : Extent), 0 < e.size →
    let inside := ∀ a, e.contains a = true → s.cfg.carveBase ≤ a ∧ a < s.cfg.carveBase + s.cfg.carveSize
    let hits := fun x : Extent => ∃ a, e.contains a = true ∧ x.contains a = true
    let page := hits { start := s.cfg.controlPage, size := 4096 }
    (s.windowRefusal index but e = none ↔
      (∀ a, e.contains a = true → s.cfg.carveBase ≤ a ∧ a < s.cfg.carveBase + s.cfg.carveSize)
      ∧ ∀ a, e.contains a = true →
          (∀ x ∈ s.windows, x.1 ≠ index → x.2.contains a = false)
          ∧ ¬(s.cfg.controlPage ≤ a ∧ a < s.cfg.controlPage + 4096)
          ∧ ∀ m : ModuleId, but ≠ some m → ∀ x ∈ s.store.mods[m].slots, x.extent.contains a = false)
    ∧ (¬inside → s.windowRefusal index but e = some { outcome := .outOfCarve, d0 := index, d1 := 0, d2 := 0 })
    ∧ (inside → ∀ x ∈ s.windows, x.1 ≠ index → hits x.2 →
        (∀ y ∈ s.windows, y.1 ≠ index → hits y.2 → x.1 ≤ y.1) →
        s.windowRefusal index but e = some { outcome := .overlap, d0 := index, d1 := 0, d2 := x.1 })
    ∧ (inside → (∀ x ∈ s.windows, x.1 ≠ index → ¬hits x.2) →
        (page → s.windowRefusal index but e = some { outcome := .overlap, d0 := index, d1 := 1, d2 := 0 })
        ∧ (¬page → ∀ (m : ModuleId) (i : Nat) (x : Slot), but ≠ some m → s.store.mods[m].slots[i]? = some x →
            hits x.extent →
            (∀ (n : ModuleId) (j : Nat) (y : Slot), but ≠ some n → s.store.mods[n].slots[j]? = some y → hits y.extent →
              m < n ∨ m = n ∧ i ≤ j) →
            s.windowRefusal index but e = some { outcome := .overlap, d0 := index, d1 := 2, d2 := 8 * m.val + i }))

/-- R34, R3: CONFIGURE_MODULE with every field in range, of a module that is not enabled, whose window passes the check:
the record, the window and an emptied slot list, and DONE. Otherwise only a status record, by the first of: the first
field out of range, named by its offset in the command cell; IN_USE; the refusal of the window check (R4, R5). -/
def Obligations.ConfigureModuleTakes : Prop :=
  (∀ (t : Time) (q m owner width height stride : Word) (start : Addr) (limit : Word) (i : ModuleId) (s : State),
    s.agent.inFlight = none → moduleArg s.cfg m = some i → owner.toNat ≤ 255 →
    64 ≤ width.toNat → width.toNat ≤ 8192 → 64 ≤ height.toNat → height.toNat ≤ 6144 →
    stride.toNat % 64 = 0 → 4 * width.toNat ≤ stride.toNat → stride.toNat ≤ 32768 →
    1000 ≤ limit.toNat → limit.toNat ≤ 1000000 → s.trackers[i].record.enabled = false →
    let e : Extent :=
      { start := start.toNat / 4096 * 4096, size := (height.toNat * stride.toNat + 4095) / 4096 * 4096 + 4096 }
    s.windowRefusal i.val (some i) e = none →
    exec (.configureModule t q m owner width height stride start limit) s =
      .next (({ s.atTime t with
          trackers := s.trackers.set i
            { s.trackers[i] with
              record :=
                { configured := true, enabled := false, owner := owner.setWidth 8, width := width.toNat
                  height := height.toNat, stride := stride.toNat, staleLimit := limit.toNat
                  lastTrailer := s.trackers[i].record.lastTrailer } }
          path := { s.path with captureWindows := s.path.captureWindows.set i (.configured e) }
          store := { s.store with mods := s.store.mods.set i .empty } } : State).writeStatus q 1 (.plain .done)))
  ∧ ∀ (t : Time) (q m owner width height stride : Word) (start : Addr) (limit : Word) (i : ModuleId) (s : State),
    s.agent.inFlight = none → moduleArg s.cfg m = some i →
    let refused := fun r : Reply =>
      exec (.configureModule t q m owner width height stride start limit) s = .next ((s.atTime t).writeStatus q 1 r)
    let field := fun n : Nat => refused { outcome := .badArgument, d0 := n, d1 := 0, d2 := 0 }
    let ok1 := owner.toNat ≤ 255
    let ok2 := 64 ≤ width.toNat ∧ width.toNat ≤ 8192
    let ok3 := 64 ≤ height.toNat ∧ height.toNat ≤ 6144
    let ok4 := stride.toNat % 64 = 0 ∧ 4 * width.toNat ≤ stride.toNat ∧ stride.toNat ≤ 32768
    let ok5 := 1000 ≤ limit.toNat ∧ limit.toNat ≤ 1000000
    (¬ok1 → field 8) ∧ (ok1 → ¬ok2 → field 12) ∧ (ok1 → ok2 → ¬ok3 → field 16)
    ∧ (ok1 → ok2 → ok3 → ¬ok4 → field 20) ∧ (ok1 → ok2 → ok3 → ok4 → ¬ok5 → field 32)
    ∧ (ok1 → ok2 → ok3 → ok4 → ok5 →
      (s.trackers[i].record.enabled = true → refused { outcome := .inUse, d0 := 0, d1 := 0, d2 := 0 })
      ∧ (s.trackers[i].record.enabled = false → ∀ r,
          s.windowRefusal i.val (some i)
            { start := start.toNat / 4096 * 4096
              size := (height.toNat * stride.toNat + 4095) / 4096 * 4096 + 4096 } = some r → refused r))

/-- R35, R3, R82: ENABLE_MODULE of a configured module with a slot list puts it into service, STALE and IDLE; of one not
configured or without a slot list it is NOT_CONFIGURED; of an enabled one it changes nothing. That a bar then stays is the
model's choice (log 30). -/
def Obligations.EnableModuleTakes : Prop :=
  ∀ (t : Time) (q m : Word) (i : ModuleId) (s : State),
    s.agent.inFlight = none → moduleArg s.cfg m = some i →
    (∀ e, s.trackers[i].record.enabled = false → s.trackers[i].record.configured = true →
      s.store.mods[i].slots ≠ [] → s.path.captureWindows[i] = .configured e →
      exec (.enableModule t q m) s =
        .next (({ s.atTime t with
            trackers := s.trackers.set i
              { record := { s.trackers[i].record with enabled := true, lastTrailer := 0 }, capture := .idle
                deadline := none }
            path := { s.path with captureWindows := s.path.captureWindows.set i (.active e) }
            ctl := { s.ctl with mods := s.ctl.mods.set i { s.ctl.mods[i] with barred := false } } } :
            State).writeStatus q 2 (.plain .done)))
    ∧ (s.trackers[i].record.enabled = true →
        exec (.enableModule t q m) s = .next ((s.atTime t).writeStatus q 2 (.plain .done)))
    ∧ (s.trackers[i].record.enabled = false →
        s.trackers[i].record.configured = false ∨ s.store.mods[i].slots = [] →
        exec (.enableModule t q m) s = .next ((s.atTime t).writeStatus q 2 (.plain .notConfigured)))

/-- R36, R3: DISABLE_MODULE is refused with IN_USE for S, for I and for a module with a held slot; else it takes an
enabled module out of service and empties its slot list; of a disabled one it changes nothing. -/
def Obligations.DisableModuleTakes : Prop :=
  ∀ (t : Time) (q m : Word) (i : ModuleId) (s : State),
    s.agent.inFlight = none → moduleArg s.cfg m = some i →
    (∀ e, s.trackers[i].record.enabled = true → s.ctl.phase.serving ≠ some i → s.ctl.phase.incoming ≠ some i →
      (∀ x ∈ s.store.mods[i].slots, x.holders = noHolders) → s.path.captureWindows[i] = .active e →
      exec (.disableModule t q m) s =
        .next (({ s.atTime t with
            trackers := s.trackers.set i
              { record := { s.trackers[i].record with enabled := false }, capture := .disabled, deadline := none }
            path := { s.path with captureWindows := s.path.captureWindows.set i (.configured e) }
            store := { s.store with mods := s.store.mods.set i .empty } } : State).writeStatus q 3 (.plain .done)))
    ∧ (s.trackers[i].record.enabled = true →
        (s.ctl.phase.serving = some i ∨ s.ctl.phase.incoming = some i
          ∨ ∃ x ∈ s.store.mods[i].slots, x.holders ≠ noHolders) →
        exec (.disableModule t q m) s = .next ((s.atTime t).writeStatus q 3 (.plain .inUse)))
    ∧ (s.trackers[i].record.enabled = false →
        exec (.disableModule t q m) s = .next ((s.atTime t).writeStatus q 3 (.plain .done)))

/-- R37, R48, R90, R122: RESET_MODULE of an enabled module frees its fill slot and its unheld READY slots, keeps the held
ones in their order, makes it IDLE and STALE, takes back its gain, refinement and rectangle, sets its reset mark and
cancels a computation that names it. Of a disabled one: NOT_ENABLED. -/
def Obligations.ResetModuleTakes : Prop :=
  ∀ (t : Time) (q m : Word) (i : ModuleId) (s : State),
    s.agent.inFlight = none → moduleArg s.cfg m = some i →
    (s.trackers[i].record.enabled = true →
      ∃ ms : ModuleSlots,
        exec (.resetModule t q m) s =
          .next ((({ s.atTime t with
              trackers := s.trackers.set i { s.trackers[i] with capture := .idle, deadline := none }
              store := { s.store with mods := s.store.mods.set i ms }
              ctl :=
                { s.ctl with
                  mods := s.ctl.mods.set i
                    { s.ctl.mods[i] with
                      gain := 16384, relaxStart := 16384, relaxStep := 0, rx := 0, ry := 0, rect := none
                      resetMark := true } }
              reg := s.reg.cancel i } : State).writeSnapshot (.command 4)).writeStatus q 4 (.plain .done))
        ∧ ms.tickets = s.store.mods[i].tickets
        ∧ (∀ j, ms.slots[j]? = s.store.mods[i].slots[j]?.map fun x =>
            if s.trackers[i].capture.fillSlot = some j ∨ x.unheld = true then
              { x with state := .free, holders := noHolders } else x)
        ∧ ms.ready = s.store.mods[i].ready.filter fun j =>
            decide (s.trackers[i].capture.fillSlot = some j) || !s.store.mods[i].recyclable j)
    ∧ (s.trackers[i].record.enabled = false →
        exec (.resetModule t q m) s = .next ((s.atTime t).writeStatus q 4 (.plain .notEnabled)))

/-! ### Slot, calibration and dump commands -/

/-- R49, R54, R60, R161: LOAD_SLOTS, DUMP_SLOTS and LOAD_CALIBRATION that pass their checks become the command in
flight, with nothing answered yet, and change nothing else; a dump of no slots ends at once with DONE and COMMAND_DONE.
One that fails a check ends at once with COMMAND_DONE and the outcome of the first check it fails, and changes nothing
else. That every read of a buffer is issued at the trigger, and no write of a dump, is the model's choice (log 19); that
a BAD_ARGUMENT of DUMP_SLOTS and LOAD_CALIBRATION has a zero detail is log 10. -/
def Obligations.TimedCommandsStart : Prop :=
  (∀ (t : Time) (q m : Word) (buffer : Addr) (i : ModuleId) (s : State),
    s.agent.inFlight = none → moduleArg s.cfg m = some i → s.cfg.carveBase ≤ buffer.toNat →
    let start := fun (op : InFlightOp) (issued accesses : Nat) =>
      ({ s.atTime t with
        serial := s.serial + 1
        agent :=
          { s.agent with
            inFlight := some
              { serial := s.serial, seq := q, op := op
                progress := { issued := issued, answers := List.replicate accesses none } } } } : State)
    (∀ n : Word, 1 ≤ n.toNat → n.toNat ≤ 7 → s.trackers[i].record.configured = true →
      s.trackers[i].record.enabled = false → buffer.toNat + 8 * (n.toNat + 1) ≤ s.cfg.carveBase + s.cfg.carveSize →
      exec (.loadSlots t q m buffer n) s =
        .next (start (.loadSlots i buffer.toNat (n.toNat + 1)) (n.toNat + 1) (n.toNat + 1)))
    ∧ (s.store.mods[i].slots ≠ [] →
      buffer.toNat + 32 * s.store.mods[i].slots.length ≤ s.cfg.carveBase + s.cfg.carveSize →
      exec (.dumpSlots t q m buffer) s =
        .next (start (.dumpSlots i buffer.toNat (s.store.mods[i].slots.map dumpEntry)) 0
          s.store.mods[i].slots.length))
    ∧ (s.store.mods[i].slots = [] →
      exec (.dumpSlots t q m buffer) s =
        .next (((s.atTime t).raise { kind := .commandDone, subject := 8, second := 0, frame := q, reason := 0 }).writeStatus
          q 8 (.plain .done)))
    ∧ (buffer.toNat + 96 ≤ s.cfg.carveBase + s.cfg.carveSize →
      exec (.loadCalibration t q m buffer) s = .next (start (.loadCalibration i buffer.toNat) 12 12)))
  ∧ ∀ (t : Time) (q m n : Word) (buffer : Addr) (s : State), s.agent.inFlight = none →
    let ended := fun (kind : Nat) (o : OutcomeCode) (d : Nat) =>
      Host.Outcome.next (φ := Fault) (ρ := Refusal)
        (((s.atTime t).raise
          { kind := .commandDone, subject := kind, second := o.number, frame := q, reason := 0 }).writeStatus q kind
          { outcome := o, d0 := d, d1 := 0, d2 := 0 })
    let load := exec (.loadSlots t q m buffer n) s
    let dump := exec (.dumpSlots t q m buffer) s
    let calibration := exec (.loadCalibration t q m buffer) s
    let outside := fun size : Nat =>
      buffer.toNat < s.cfg.carveBase ∨ s.cfg.carveBase + s.cfg.carveSize < buffer.toNat + size
    (s.cfg.modules.toNat ≤ m.toNat →
      load = ended 5 .badArgument 4 ∧ dump = ended 8 .badArgument 0 ∧ calibration = ended 9 .badArgument 0)
    ∧ ∀ i, moduleArg s.cfg m = some i →
      let ok := 1 ≤ n.toNat ∧ n.toNat ≤ 7
      (¬ok → load = ended 5 .badArgument 16)
      ∧ (ok → s.trackers[i].record.configured = false → load = ended 5 .notConfigured 0)
      ∧ (ok → s.trackers[i].record.configured = true → s.trackers[i].record.enabled = true → load = ended 5 .inUse 0)
      ∧ (ok → s.trackers[i].record.configured = true → s.trackers[i].record.enabled = false →
          outside (8 * (n.toNat + 1)) → load = ended 5 .outOfCarve 0)
      ∧ (s.store.mods[i].slots ≠ [] → outside (32 * s.store.mods[i].slots.length) → dump = ended 8 .outOfCarve 0)
      ∧ (outside 96 → calibration = ended 9 .outOfCarve 0)

/-- R50, R161: answers to the reads of a LOAD_SLOTS in flight, none of them an error. While some entry is not yet read
only the command's progress changes. With the last one the entries are checked in index order: the first one that
reaches out of the carve-out, or else shares a byte with a window, the control page, another module's slot or an earlier
entry, ends the command with OUT_OF_CARVE or OVERLAP and its index; where all pass, the whole list is installed, every
slot FREE and unheld, and the command ends with DONE and the slot count. Each end raises COMMAND_DONE. -/
def Obligations.LoadSlotsEndInstalls : Prop :=
  ∀ (t : Time) (n : Nat) (q : Word) (m : ModuleId) (b k : Nat) (p : Progress) (a : AccessAnswers 8)
    (buf : Vector Byte 64) (s : State),
    s.agent.inFlight = some { serial := n, seq := q, op := .loadSlots m b k, progress := p } →
    p.answers.length = k →
    let fresh := fun j : Nat => a.which.getLsbD j && decide (j < p.issued) && p.answers[j]? == some none
    (∀ j, fresh j = true → a.errs.getLsbD j = false) →
    let got : Nat → Option (List Byte) := fun j =>
      if fresh j then some ((buf.toList.drop (8 * j)).take 8) else p.answers[j]?.join
    let bytes := ((List.range k).map fun j => (got j).getD []).flatten
    let size := (s.trackers[m].record.height * s.trackers[m].record.stride + 4095) / 4096 * 4096
    let entry : Nat → Extent := fun j => { start := fieldAt bytes (8 * j) 8 / 4096 * 4096, size := size }
    let share := fun x y : Extent => ∃ a, x.contains a = true ∧ y.contains a = true
    let out := fun j => ∃ a, (entry j).contains a = true ∧ ¬(s.cfg.carveBase ≤ a ∧ a < s.cfg.carveBase + s.cfg.carveSize)
    let clash := fun j =>
      (∃ x ∈ s.windows, share (entry j) x.2) ∨ share (entry j) { start := s.cfg.controlPage, size := 4096 }
      ∨ (∃ l : ModuleId, l ≠ m ∧ ∃ x ∈ s.store.mods[l].slots, share (entry j) x.extent)
      ∨ ∃ i, i < j ∧ share (entry j) (entry i)
    let ends := fun (s' : State) (o : OutcomeCode) (d : Nat) =>
      let s1 := s'.raise { kind := .commandDone, subject := 5, second := o.number, frame := q, reason := 0 }
      let s2 := s1.writeStatus q 5 { outcome := o, d0 := d, d1 := 0, d2 := 0 }
      exec (.loadSlotsEnd t n a buf) s = .next { s2 with agent := { s2.agent with inFlight := none } }
    ((∃ j, j < k ∧ got j = none) →
      exec (.loadSlotsEnd t n a buf) s =
        .next { s.atTime t with
          agent :=
            { s.agent with
              inFlight := some
                { serial := n, seq := q, op := .loadSlots m b k
                  progress := { issued := p.issued, answers := (List.range k).map got } } } })
    ∧ ((∀ j, j < k → got j ≠ none) →
      ((∀ j, j < k → ¬out j ∧ ¬clash j) →
        let ms : ModuleSlots :=
          { slots := (List.range k).map fun j =>
              { base := (entry j).start, size := size, state := .free, holders := noHolders }
            ready := [], tickets := Vector.replicate 2 none }
        ends { s.atTime t with store := { s.store with mods := s.store.mods.set m ms } } .done k)
      ∧ ∀ j, j < k → (∀ i, i < j → ¬out i ∧ ¬clash i) →
        (out j → ends (s.atTime t) .outOfCarve j) ∧ (¬out j → clash j → ends (s.atTime t) .overlap j))

/-- R55, R161: answers to the writes of a DUMP_SLOTS in flight, none of them an error, with `i` of its entries issued by
then. While some write is not yet answered only the command's progress changes. With the last one its entries have been
written in index order at buffer + 32j, COMMAND_DONE is raised and the command ends with DONE and the entry count. That
the writes enter the trace at the end of the command is the model's choice (log 14). -/
def Obligations.DumpSlotsEndReports : Prop :=
  ∀ (t : Time) (n : Nat) (q : Word) (m : ModuleId) (b : Nat) (entries : List (List Byte)) (p : Progress)
    (a : AccessAnswers 8) (i : Nat) (s : State),
    s.agent.inFlight = some { serial := n, seq := q, op := .dumpSlots m b entries, progress := p } →
    ProgressLaw s →
    let k := entries.length
    let issued := max p.issued (min i k)
    let fresh := fun j : Nat => a.which.getLsbD j && decide (j < issued) && p.answers[j]? == some none
    (∀ j, fresh j = true → a.errs.getLsbD j = false) →
    let got : Nat → Option (List Byte) := fun j => if fresh j then some [] else p.answers[j]?.join
    ((∃ j, j < k ∧ got j = none) →
      exec (.dumpSlotsEnd t n a i) s =
        .next { s.atTime t with
          agent :=
            { s.agent with
              inFlight := some
                { serial := n, seq := q, op := .dumpSlots m b entries
                  progress := { issued := issued, answers := (List.range k).map got } } } })
    ∧ ((∀ j, j < k → got j ≠ none) →
      ∃ ws : List OwnWrite,
        (∀ j, ws[j]? = entries[j]?.map fun e => OwnWrite.mk (b + 32 * j) e (some false))
        ∧ let s1 := ({ s.atTime t with agent := { s.agent with dumpWrites := s.agent.dumpWrites ++ ws } } : State).raise
            { kind := .commandDone, subject := 8, second := 0, frame := q, reason := 0 }
          let s2 := s1.writeStatus q 8 (.one .done entries.length)
          exec (.dumpSlotsEnd t n a i) s = .next { s2 with agent := { s2.agent with inFlight := none } })

/-- R61, R161: answers to the reads of a LOAD_CALIBRATION in flight, none of them an error. While some bytes are not yet
read only the command's progress changes. With the last ones, a buffer that passes the checks becomes the module's
pending copy, COMMAND_DONE is raised, the snapshot is written and the command ends with DONE and the entry count, the
calibration in use staying as it is; a buffer that fails a check changes nothing, and COMMAND_DONE and the status record
carry that check's outcome. -/
def Obligations.LoadCalibrationEndMakesPending : Prop :=
  ∀ (t : Time) (n : Nat) (q : Word) (m : ModuleId) (b : Nat) (p : Progress) (a : AccessAnswers 12)
    (buf : Vector Byte 96) (s : State),
    s.agent.inFlight = some { serial := n, seq := q, op := .loadCalibration m b, progress := p } →
    p.answers.length = 12 →
    let fresh := fun j : Nat => a.which.getLsbD j && decide (j < p.issued) && p.answers[j]? == some none
    (∀ j, fresh j = true → a.errs.getLsbD j = false) →
    let got : Nat → Option (List Byte) := fun j =>
      if fresh j then some ((buf.toList.drop (8 * j)).take 8) else p.answers[j]?.join
    let bytes := ((List.range 12).map fun j => (got j).getD []).flatten
    ((∃ j, j < 12 ∧ got j = none) →
      exec (.loadCalibrationEnd t n a buf) s =
        .next { s.atTime t with
          agent :=
            { s.agent with
              inFlight := some
                { serial := n, seq := q, op := .loadCalibration m b
                  progress := { issued := p.issued, answers := (List.range 12).map got } } } })
    ∧ ((∀ j, j < 12 → got j ≠ none) →
      (∀ c, checkCalibration bytes = .ok c →
        let s1 := ({ s.atTime t with
            ctl :=
              { s.ctl with mods := s.ctl.mods.set m { s.ctl.mods[m] with pendingCalibration := some c } } } : State).raise
          { kind := .commandDone, subject := 9, second := 0, frame := q, reason := 0 }
        let s2 := (s1.writeSnapshot (.command 9)).writeStatus q 9 (.one .done c.parallax.length)
        exec (.loadCalibrationEnd t n a buf) s = .next { s2 with agent := { s2.agent with inFlight := none } })
      ∧ ∀ r, checkCalibration bytes = .error r →
        let s1 := ((s.atTime t).raise
          { kind := .commandDone, subject := 9, second := r.outcome.number, frame := q, reason := 0 }).writeStatus q 9 r
        exec (.loadCalibrationEnd t n a buf) s = .next { s1 with agent := { s1.agent with inFlight := none } })

/-- R61, R57, R58: the checks of a calibration buffer pass exactly the buffers whose scale, band and parallax table lie
in their ranges, and the record then holds the buffer's fields. Any other buffer fails with the outcome and detail of
the first check it fails: BAD_ARGUMENT with the offset of the scale, of lo or of hi; BAD_TABLE with the count, with the
index of the first focus code above 1023, or of the first entry that is not above its predecessor. -/
def Obligations.CalibrationCheckIsExact : Prop :=
  ∀ buf : List Byte,
    (∀ c : Calibration, checkCalibration buf = .ok c ↔
      (c.scale = fieldAt buf 0 4 ∧ c.cx = signedAt buf 4 4 ∧ c.cy = signedAt buf 8 4
        ∧ c.lo = fieldAt buf 12 4 ∧ c.hi = fieldAt buf 16 4
        ∧ c.parallax.length = fieldAt buf 20 4
        ∧ (∀ j, j < c.parallax.length → c.parallax[j]? = some (ParallaxEntry.mk
            (fieldAt buf (32 + 8 * j) 2) (signedAt buf (32 + 8 * j + 2) 2)
            (signedAt buf (32 + 8 * j + 4) 2))))
      ∧ 4096 ≤ c.scale ∧ c.scale ≤ 16777215 ∧ 16384 ≤ c.lo ∧ c.lo < c.hi ∧ c.hi ≤ 4194304
      ∧ c.parallax.length ≤ 8 ∧ (∀ e ∈ c.parallax, e.focus ≤ 1023) ∧ c.parallax.Pairwise (·.focus < ·.focus))
    ∧ let fails := fun (o : OutcomeCode) (d : Nat) =>
        checkCalibration buf = .error { outcome := o, d0 := d, d1 := 0, d2 := 0 }
      let lo := fieldAt buf 12 4
      let hi := fieldAt buf 16 4
      let count := fieldAt buf 20 4
      let focus := fun j => fieldAt buf (32 + 8 * j) 2
      let ok1 := 4096 ≤ fieldAt buf 0 4 ∧ fieldAt buf 0 4 ≤ 16777215
      let ok2 := 16384 ≤ lo ∧ lo ≤ 4194304
      let ok3 := 16384 ≤ hi ∧ hi ≤ 4194304
      (¬ok1 → fails .badArgument 0) ∧ (ok1 → ¬ok2 → fails .badArgument 12) ∧ (ok1 → ok2 → ¬ok3 → fails .badArgument 16)
      ∧ (ok1 → ok2 → ok3 → hi ≤ lo → fails .badArgument 12)
      ∧ (ok1 → ok2 → ok3 → lo < hi →
        (8 < count → fails .badTable count)
        ∧ (count ≤ 8 →
          (∀ j, j < count → 1023 < focus j → (∀ i, i < j → focus i ≤ 1023) → fails .badTable j)
          ∧ ((∀ j, j < count → focus j ≤ 1023) → ∀ j, j + 1 < count → focus (j + 1) ≤ focus j →
              (∀ i, i < j → focus i < focus (i + 1)) → fails .badTable (j + 1))))

/-- R50, R55, R61: where memory answers an access of a command in flight with an error, the command ends with
FETCH_FAILED, COMMAND_DONE is raised, and nothing else of the block changes. The detail is the index of the first entry
so answered, and 0 for LOAD_CALIBRATION. A dump has then issued the first entries at buffer + 32j and no further one:
each is marked with memory's answer so far. -/
def Obligations.TimedEndsReportErrors : Prop :=
  ∀ (t : Time) (n : Nat) (q : Word) (m : ModuleId) (b : Nat) (p : Progress) (j : Nat) (s : State),
    let finish := fun (s : State) (kind d : Nat) =>
      let s1 := (s.raise { kind := .commandDone, subject := kind, second := 9, frame := q, reason := 0 }).writeStatus q kind
        (.one .fetchFailed d)
      ({ s1 with agent := { s1.agent with inFlight := none } } : State)
    (∀ k (a : AccessAnswers 8) buf,
      s.agent.inFlight = some { serial := n, seq := q, op := .loadSlots m b k, progress := p } →
      let fails := fun i : Nat => a.which.getLsbD i = true ∧ i < p.issued ∧ p.answers[i]? = some none ∧ a.errs.getLsbD i = true
      fails j → (∀ i, i < j → ¬fails i) → exec (.loadSlotsEnd t n a buf) s = .next (finish (s.atTime t) 5 j))
    ∧ (∀ entries (a : AccessAnswers 8) h,
      s.agent.inFlight = some { serial := n, seq := q, op := .dumpSlots m b entries, progress := p } →
      let issued := max p.issued (min h p.answers.length)
      let fresh := fun i : Nat => a.which.getLsbD i = true ∧ i < issued ∧ p.answers[i]? = some none
      fresh j → a.errs.getLsbD j = true → (∀ i, i < j → fresh i → a.errs.getLsbD i = false) →
      ∃ ws : List OwnWrite,
        (∀ i e, i < issued → entries[i]? = some e → ∃ w, ws[i]? = some w ∧ w.address = b + 32 * i ∧ w.bytes = e
          ∧ (fresh i → w.answered = some (a.errs.getLsbD i))
          ∧ (∀ x, p.answers[i]? = some (some x) → w.answered = some false)
          ∧ (¬fresh i → (∀ x, p.answers[i]? ≠ some (some x)) → w.answered = none))
        ∧ ws.length = min issued entries.length
        ∧ exec (.dumpSlotsEnd t n a h) s = .next (finish ((s.atTime t).addDump ws) 8 j))
    ∧ ∀ (a : AccessAnswers 12) buf,
      s.agent.inFlight = some { serial := n, seq := q, op := .loadCalibration m b, progress := p } →
      (∃ i : Nat, a.which.getLsbD i = true ∧ i < p.issued ∧ p.answers[i]? = some none ∧ a.errs.getLsbD i = true) →
      exec (.loadCalibrationEnd t n a buf) s = .next (finish (s.atTime t) 9 0)

/-- R52, R53: HOLD_FRAME puts the lowest unused ticket of the module on its newest frame and answers slot and ticket;
without a frame NO_FRAME, with both tickets in use HOLD_LIMIT. RELEASE_HOLD of a used ticket takes its holder from the
slot and leaves the ready list; of an unused one, or with a ticket above 1, BAD_ARGUMENT. A module number the
integration does not provide is BAD_ARGUMENT. That these BAD_ARGUMENTs have a zero detail is the model's choice (log
10). -/
def Obligations.HoldCommandsTake : Prop :=
  (∀ (t : Time) (q m : Word) (i : ModuleId) (s : State),
      s.agent.inFlight = none → moduleArg s.cfg m = some i →
      (∀ (slot : Nat) (k : Fin 2), s.store.mods[i].ready.getLast? = some slot → s.store.mods[i].tickets[k] = none →
        (∀ j, j < k → s.store.mods[i].tickets[j] ≠ none) →
        exec (.holdFrame t q m) s =
          .next (({ s.atTime t with
              store :=
                { s.store with
                  mods := s.store.mods.set i
                    { s.store.mods[i] with
                      slots := s.store.mods[i].slots.modify slot (·.hold (.ticket k))
                      tickets := s.store.mods[i].tickets.set k (some slot) } } } : State).writeStatus q 6
            { outcome := .done, d0 := slot, d1 := k.val, d2 := 0 }))
      ∧ (s.store.mods[i].ready = [] →
          exec (.holdFrame t q m) s = .next ((s.atTime t).writeStatus q 6 (.plain .noFrame)))
      ∧ (s.store.mods[i].ready ≠ [] → (∀ k : Fin 2, s.store.mods[i].tickets[k] ≠ none) →
          exec (.holdFrame t q m) s = .next ((s.atTime t).writeStatus q 6 (.plain .holdLimit))))
    ∧ (∀ (t : Time) (q m k : Word) (i : ModuleId) (s : State),
        s.agent.inFlight = none → moduleArg s.cfg m = some i →
        (∀ (h : k.toNat < 2) (slot : Nat), s.store.mods[i].tickets[(⟨k.toNat, h⟩ : Fin 2)] = some slot →
          exec (.releaseHold t q m k) s =
            .next (({ s.atTime t with
                store :=
                  { s.store with
                    mods := s.store.mods.set i
                      { s.store.mods[i] with
                        slots := s.store.mods[i].slots.modify slot (·.unhold (.ticket ⟨k.toNat, h⟩))
                        tickets := s.store.mods[i].tickets.set k.toNat none } } } : State).writeStatus q 7
              (.one .done slot)))
        ∧ ((2 ≤ k.toNat ∨ ∃ h : k.toNat < 2, s.store.mods[i].tickets[(⟨k.toNat, h⟩ : Fin 2)] = none) →
            exec (.releaseHold t q m k) s = .next ((s.atTime t).writeStatus q 7 (.plain .badArgument))))
    ∧ ∀ (t : Time) (q m k : Word) (s : State), s.agent.inFlight = none → s.cfg.modules.toNat ≤ m.toNat →
        exec (.holdFrame t q m) s = .next ((s.atTime t).writeStatus q 6 (.plain .badArgument))
        ∧ exec (.releaseHold t q m k) s = .next ((s.atTime t).writeStatus q 7 (.plain .badArgument))

/-! ### Field, zoom and hand-off commands -/

/-- R59: SET_FIELD makes the checks in order, and where all pass, the three values become the pending field copy; the
parameters in use stay. -/
def Obligations.SetFieldTakes : Prop :=
  ∀ (t : Time) (q w lo hi : Word) (s : State), s.agent.inFlight = none →
    let bad := fun n => exec (.setField t q w lo hi) s = .next ((s.atTime t).writeStatus q 10 (.one .badArgument n))
    let ok1 := 256 ≤ w.toNat ∧ w.toNat ≤ 16384
    let ok2 := 16384 ≤ lo.toNat ∧ lo.toNat ≤ 4194304
    let ok3 := 16384 ≤ hi.toNat ∧ hi.toNat ≤ 4194304
    (¬ok1 → bad 1) ∧ (ok1 → ¬ok2 → bad 2) ∧ (ok1 → ok2 → ¬ok3 → bad 3)
    ∧ (ok1 → ok2 → ok3 → ¬lo.toNat < hi.toNat → bad 4)
    ∧ (ok1 → ok2 → ok3 → lo.toNat < hi.toNat →
        exec (.setField t q w lo hi) s =
          .next ((({ s.atTime t with
              ctl :=
                { s.ctl with
                  pendingField := some { width := w.toNat, zmin := lo.toNat, zmax := hi.toNat } } } :
              State).writeSnapshot (.command 10)).writeStatus q 10 (.plain .done)))

/-- R74: ZOOM_TO clamps its target to the limits in use, with ZOOM_CLAMPED where that changed it, keeps its rate in
65536 to 131072, and makes the two the pending request. -/
def Obligations.ZoomToTakes : Prop :=
  ∀ (t : Time) (q target rate : Word) (s : State), s.agent.inFlight = none →
    let z := if target.toNat < s.ctl.field.zmin then s.ctl.field.zmin
      else if s.ctl.field.zmax < target.toNat then s.ctl.field.zmax else target.toNat
    let r := if rate.toNat ≤ 65536 then 65536 else if 131072 < rate.toNat then 131072 else rate.toNat
    let s1 := if target.toNat = z then s.atTime t
      else (s.atTime t).raise { kind := .zoomClamped, subject := 0, second := 0, frame := word z, reason := 0 }
    exec (.zoomTo t q target rate) s =
      .next ((({ s1 with ctl := { s.ctl with pendingZoom := some { target := z, rate := r } } } :
          State).writeSnapshot (.command 11)).writeStatus q 11
        { outcome := .done
          d0 := (if target.toNat = z then 0 else 1) + (if rate.toNat = r then 0 else 2)
          d1 := z, d2 := r })

/-- R84, R85: FORCE_MODULE of an enabled module and RELEASE_FORCE replace the pending force change and nothing else; a
module that is not enabled is NOT_ENABLED, a module number the integration does not provide BAD_ARGUMENT. That its
detail is then zero is the model's choice (log 10). -/
def Obligations.ForceCommandsTake : Prop :=
  ∀ (t : Time) (q m : Word) (s : State), s.agent.inFlight = none →
    let pend := fun (f : ForceChange) (kind : Nat) =>
      ((({ s.atTime t with ctl := { s.ctl with pendingForce := some f } } : State).writeSnapshot
        (.command kind)).writeStatus q kind (.plain .done))
    (∀ i, moduleArg s.cfg m = some i → s.trackers[i].record.enabled = true →
      exec (.forceModule t q m) s = .next (pend (.force i) 12))
    ∧ (∀ i, moduleArg s.cfg m = some i → s.trackers[i].record.enabled = false →
      exec (.forceModule t q m) s = .next ((s.atTime t).writeStatus q 12 (.plain .notEnabled)))
    ∧ (s.cfg.modules.toNat ≤ m.toNat →
      exec (.forceModule t q m) s = .next ((s.atTime t).writeStatus q 12 (.plain .badArgument)))
    ∧ exec (.releaseForce t q) s = .next (pend .release 13)

/-- R104: SET_HANDOFF clamps its six values to their ranges, makes them the pending copy and answers which were clamped;
the parameters in use stay. -/
def Obligations.SetHandoffTakes : Prop :=
  ∀ (t : Time) (q h f l p d u : Word) (s : State), s.agent.inFlight = none →
    let hp : HandoffParams :=
      { hysteresis := min h.toNat 65536, fade := max 1 (min f.toNat 64), relax := min l.toNat 255
        prepare := max 1 (min p.toNat 32), tolerance := min d.toNat 65535, quality := min u.toNat 16368 }
    let changed := fun (a b k : Nat) => if a = b then 0 else k
    exec (.setHandoff t q h f l p d u) s =
      .next ((({ s.atTime t with ctl := { s.ctl with pendingParams := some hp } } : State).writeSnapshot
        (.command 14)).writeStatus q 14
        (.one .done (changed h.toNat hp.hysteresis 1 + changed f.toNat hp.fade 2 + changed l.toNat hp.relax 4
          + changed p.toNat hp.prepare 8 + changed d.toNat hp.tolerance 16 + changed u.toNat hp.quality 32)))

/-- R106, R107: FREEZE sets the frozen flag, puts the freeze holder on the slot each module is named, publishes and
writes the snapshot; THAW clears the flag, takes the freeze holder from every slot, publishes and writes the snapshot.
FREEZE while frozen and THAW while not change nothing. What is published are the items of R88. The slot named for a module is the one that the OPEN output frame
of the pacing view has pinned for it, else the one that the OPEN output frame of the other enabled view has. The model's
choices (log 11): what is published is the Controller's present state, and a FREEZE or THAW that changes nothing writes
the snapshot too. -/
def Obligations.FreezeAndThawTake : Prop :=
  let published := fun c : Controller =>
    ({ phase := c.phase, alpha := c.alpha, direction := c.direction, unrefined := c.unrefined, frozen := c.frozen
       zq := c.zq, field := c.field
       mods := c.mods.map fun x => { gain := x.gain, rx := x.rx, ry := x.ry, calibration := x.calibration } } : Published)
  (∀ (s : State) (m : ModuleId),
      let pins := fun (v : ViewId) (i : Nat) => ∃ f o p, s.comp.views[v].openName = some f
        ∧ s.comp.views[v].frame f = some o ∧ (o.serving = some p ∨ o.second = some p) ∧ p.module = m ∧ p.slot = some i
      (s.pacingView = none → s.freezeSlot m = none)
      ∧ ∀ v, s.pacingView = some v →
        (∀ i, pins v i → (∀ j, pins v j → j = i) → s.freezeSlot m = some i)
        ∧ ((∀ j, ¬pins v j) →
          (∀ u i, u ≠ v → s.comp.views[u].enabled = true → pins u i → (∀ j, pins u j → j = i) → s.freezeSlot m = some i)
          ∧ ((∀ u, u ≠ v → s.comp.views[u].enabled = true → ∀ j, ¬pins u j) → s.freezeSlot m = none)))
    ∧ (∀ (t : Time) (q : Word) (s : State), s.agent.inFlight = none →
      (s.ctl.frozen = false →
        ∃ store : SlotStore,
          exec (.freeze t q) s =
            .next ((({ s.atTime t with
                store := store
                ctl := { s.ctl with frozen := true, published := published { s.ctl with frozen := true } } } : State).writeSnapshot
              (.command 15)).writeStatus q 15 (.plain .done))
          ∧ store.closeOrder = s.store.closeOrder
          ∧ ∀ m : ModuleId, store.mods[m] =
              (s.freezeSlot m).elim s.store.mods[m] fun i =>
                { s.store.mods[m] with slots := s.store.mods[m].slots.modify i (·.hold .freeze) })
      ∧ (s.ctl.frozen = true →
          exec (.freeze t q) s = .next (((s.atTime t).writeSnapshot (.command 15)).writeStatus q 15 (.plain .done))))
    ∧ ∀ (t : Time) (q : Word) (s : State), s.agent.inFlight = none →
        (s.ctl.frozen = true →
          ∃ store : SlotStore,
            exec (.thaw t q) s =
              .next ((({ s.atTime t with
                  store := store
                  ctl := { s.ctl with frozen := false, published := published { s.ctl with frozen := false } } } : State).writeSnapshot
                (.command 16)).writeStatus q 16 (.plain .done))
            ∧ store.closeOrder = s.store.closeOrder
            ∧ ∀ m : ModuleId, store.mods[m] =
                { s.store.mods[m] with
                  slots := s.store.mods[m].slots.map fun x => { x with holders := x.holders.set 4 false } })
        ∧ (s.ctl.frozen = false →
            exec (.thaw t q) s = .next (((s.atTime t).writeSnapshot (.command 16)).writeStatus q 16 (.plain .done)))

/-! ### View commands -/

/-- R126, R3: CONFIGURE_VIEW with every field in range, of a view that is not enabled, whose window passes the check: the
record, the window, and DONE. Otherwise only a status record, by the first of: the first field out of range, named by its
offset in the command cell; IN_USE; the refusal of the window check (R4, R5). -/
def Obligations.ConfigureViewTakes : Prop :=
  (∀ (t : Time) (q width height stride : Word) (start : Addr) (timeout : Word) (v : ViewId) (s : State),
    s.agent.inFlight = none → 64 ≤ width.toNat → width.toNat ≤ 7680 → 64 ≤ height.toNat → height.toNat ≤ 4320 →
    stride.toNat % 64 = 0 → 4 * width.toNat ≤ stride.toNat → stride.toNat ≤ 32768 →
    1 ≤ timeout.toNat → timeout.toNat ≤ 255 → s.comp.views[v].enabled = false →
    let e : Extent :=
      { start := start.toNat / 4096 * 4096, size := 4096 + (height.toNat * stride.toNat + 4095) / 4096 * 4096 }
    s.windowRefusal (4 + v.val) none e = none →
    exec (.configureView t q (word v.val) width height stride start timeout) s =
      .next (({ s.atTime t with
          comp :=
            { s.comp with
              views := s.comp.views.set v
                { s.comp.views[v] with
                  configured := true, width := width.toNat, height := height.toNat, stride := stride.toNat
                  timeout := timeout.toNat } }
          path := { s.path with viewWindows := s.path.viewWindows.set v (.configured e) } } : State).writeStatus q 17
        (.plain .done)))
  ∧ ∀ (t : Time) (q width height stride : Word) (start : Addr) (timeout : Word) (v : ViewId) (s : State),
    s.agent.inFlight = none →
    let refused := fun r : Reply =>
      exec (.configureView t q (word v.val) width height stride start timeout) s =
        .next ((s.atTime t).writeStatus q 17 r)
    let field := fun n : Nat => refused { outcome := .badArgument, d0 := n, d1 := 0, d2 := 0 }
    let ok1 := 64 ≤ width.toNat ∧ width.toNat ≤ 7680
    let ok2 := 64 ≤ height.toNat ∧ height.toNat ≤ 4320
    let ok3 := stride.toNat % 64 = 0 ∧ 4 * width.toNat ≤ stride.toNat ∧ stride.toNat ≤ 32768
    let ok4 := 1 ≤ timeout.toNat ∧ timeout.toNat ≤ 255
    (¬ok1 → field 8) ∧ (ok1 → ¬ok2 → field 12) ∧ (ok1 → ok2 → ¬ok3 → field 16) ∧ (ok1 → ok2 → ok3 → ¬ok4 → field 28)
    ∧ (ok1 → ok2 → ok3 → ok4 →
      (s.comp.views[v].enabled = true → refused { outcome := .inUse, d0 := 0, d1 := 0, d2 := 0 })
      ∧ (s.comp.views[v].enabled = false → ∀ r,
          s.windowRefusal (4 + v.val) none
            { start := start.toNat / 4096 * 4096
              size := 4096 + (height.toNat * stride.toNat + 4095) / 4096 * 4096 } = some r → refused r))

/-- R127, R128, R135, R3: ENABLE_VIEW of a configured view puts it into service with no output frame; of an enabled one it
changes nothing; of one not configured: NOT_CONFIGURED. DISABLE_VIEW of an enabled view closes its output frames, so that
their holders leave every slot, and takes it out of service; with a read of the view in the table it is IN_USE; of a
disabled view it changes nothing. -/
def Obligations.EnableAndDisableViewTake : Prop :=
  (∀ (t : Time) (q : Word) (v : ViewId) (s : State), s.agent.inFlight = none →
      (∀ e, s.comp.views[v].enabled = false → s.comp.views[v].configured = true →
        s.path.viewWindows[v] = .configured e →
        exec (.enableView t q (word v.val)) s =
          .next (({ s.atTime t with
              comp :=
                { s.comp with
                  views := s.comp.views.set v
                    { s.comp.views[v] with
                      enabled := true, openedSinceEnable := false, unopenedReported := false, frameA := none
                      frameB := none } }
              path := { s.path with viewWindows := s.path.viewWindows.set v (.active e) } } : State).writeStatus q 18
            (.plain .done)))
      ∧ (s.comp.views[v].enabled = true →
          exec (.enableView t q (word v.val)) s = .next ((s.atTime t).writeStatus q 18 (.plain .done)))
      ∧ (s.comp.views[v].enabled = false → s.comp.views[v].configured = false →
          exec (.enableView t q (word v.val)) s = .next ((s.atTime t).writeStatus q 18 (.plain .notConfigured))))
    ∧ ∀ (t : Time) (q : Word) (v : ViewId) (s : State), s.agent.inFlight = none →
        (∀ e, s.comp.views[v].enabled = true → (∀ (k : EntryId) r, s.comp.table[k].read = some r → r.view ≠ v) →
          s.path.viewWindows[v] = .active e →
          ∃ store : SlotStore,
            exec (.disableView t q (word v.val)) s =
              .next (({ s.atTime t with
                  store := store
                  comp :=
                    { s.comp with
                      views := s.comp.views.set v
                        { s.comp.views[v] with enabled := false, frameA := none, frameB := none } }
                  path := { s.path with viewWindows := s.path.viewWindows.set v (.configured e) } } : State).writeStatus q 19
                (.plain .done))
            ∧ store.closeOrder = s.store.closeOrder
            ∧ ∀ m : ModuleId,
                let a := if s.comp.views[v].frameA.isSome then s.store.mods[m].unhold (.frame v .a) else s.store.mods[m]
                store.mods[m] = if s.comp.views[v].frameB.isSome then a.unhold (.frame v .b) else a)
        ∧ (s.comp.views[v].enabled = true → (∃ (k : EntryId) (r : ReadEntry), s.comp.table[k].read = some r ∧ r.view = v) →
            exec (.disableView t q (word v.val)) s = .next ((s.atTime t).writeStatus q 19 (.plain .inUse)))
        ∧ (s.comp.views[v].enabled = false →
            exec (.disableView t q (word v.val)) s = .next ((s.atTime t).writeStatus q 19 (.plain .done)))

/-! ### Upstream traffic -/

/-- R18: the port stalls at a view read exactly while every entry of the view read table is in use; what arrives behind it
waits, and once an entry is free the waiting transactions are accepted in their order. -/
def Obligations.StallHoldsThePort : Prop :=
  (∀ (y : Transaction) (s : State), s.stalls y = true ↔
    isWrite y = false ∧ (∃ v, s.classify y = some (.view v)) ∧ ∀ e : EntryId, s.comp.table[e].read ≠ none)
  ∧ (∀ (t : Time) (x y : Transaction) (ys : List Transaction) (s : State),
      s.cfg.carveBase ≤ x.address.toNat → x.address.toNat < s.cfg.carveBase + s.cfg.carveSize →
      s.path.waiting ++ [x] = y :: ys → s.stalls y = true →
      exec (.upstreamTransaction t x) s =
        .next ({ s.atTime t with path := { s.path with waiting := y :: ys } } : State).deliver)
  ∧ ∀ (y : Transaction) (ys : List Transaction) (s : State), s.path.waiting = y :: ys → s.stalls y = false →
      s.finish = (drain ys (s.accept y)).deliver

/-- R7, R8, R12, R14: the four refusals of the Memory Path: a span, a capture write by another requester than the owner, a
view write, a write into a FILLING or held slot. Each has an error answer in its place and its event, and nothing else. -/
def Obligations.RefusedTransactions : Prop :=
  ∀ (t : Time) (x : Transaction) (s : State), s.path.waiting = [] →
    s.cfg.carveBase ≤ x.address.toNat → x.address.toNat < s.cfg.carveBase + s.cfg.carveSize →
    let refused := fun (kind : EventKind) (subject second reason : Nat) =>
      ((((s.atTime t).enqueue x.requester).answer s.serial .error).raise
        { kind := kind, subject := subject, second := second, frame := 0, reason := reason }).deliver
    (s.classAt x.address.toNat ≠ s.classAt (x.address.toNat + x.len - 1) →
      exec (.upstreamTransaction t x) s = .next (refused .spanRefused x.requester.toNat 0 0))
    ∧ (isWrite x = true → ∀ m, s.classify x = some (.capture m) → x.requester ≠ s.trackers[m].record.owner →
      exec (.upstreamTransaction t x) s = .next (refused .writeRefused m.val x.requester.toNat 0))
    ∧ (isWrite x = true → ∀ v, s.classify x = some (.view v) →
      exec (.upstreamTransaction t x) s = .next (refused .writeRefused v.val x.requester.toNat 1))
    ∧ (isWrite x = true → ∀ m i y, s.classify x = some (.slot m i) → s.store.mods[m].slots[i]? = some y →
      (y.state = .filling ∨ (∃ r, y.state = .ready r) ∧ y.holders ≠ noHolders) →
      exec (.upstreamTransaction t x) s = .next (refused .writeRefused m.val x.requester.toNat 2))

/-- R6: the class of a byte, where it lies in one range alone: an ACTIVE capture or view window, the control page, a loaded
slot's extent; every other byte of the carve-out is plain, those of a CONFIGURED window too. O9's layout law keeps the
ranges apart. A transaction has the class of its first byte where its last byte has the same. R11, R13, R14, R16: plain
traffic, reads of the control page and of slots, and writes into FREE or unheld slots are
forwarded unchanged; a capture read goes to the fill slot, else to the newest READY slot, at the same offset, and reads
zeros where there is neither or in the trailer page. -/
def Obligations.ForwardedTransactions : Prop :=
  (∀ (s : State) (a : Nat),
    let within := fun start size : Nat => start ≤ a ∧ a < start + size
    let lies : ByteClass → Prop := fun c =>
      match c with
      | .capture m => ∃ e, s.path.captureWindows[m] = .active e ∧ within e.start e.size
      | .view v => ∃ e, s.path.viewWindows[v] = .active e ∧ within e.start e.size
      | .control => within s.cfg.controlPage 4096
      | .slot m i => ∃ y, s.store.mods[m].slots[i]? = some y ∧ within y.base y.size
      | .plain => False
      | .outside => False
    (∀ c, lies c → (∀ d, lies d → d = c) → s.classAt a = c)
    ∧ ((∀ c, ¬lies c) → within s.cfg.carveBase s.cfg.carveSize → s.classAt a = .plain)
    ∧ ((∀ c, ¬lies c) → ¬within s.cfg.carveBase s.cfg.carveSize → s.classAt a = .outside))
  ∧ (∀ (x : Transaction) (c : ByteClass) (s : State), s.classify x = some c ↔
    s.classAt x.address.toNat = c ∧ s.classAt (x.address.toNat + x.len - 1) = c)
  ∧ ∀ (t : Time) (x : Transaction) (s : State), s.path.waiting = [] →
    s.cfg.carveBase ≤ x.address.toNat → x.address.toNat < s.cfg.carveBase + s.cfg.carveSize →
    let s1 := (s.atTime t).enqueue x.requester
    let forwarded := fun a => exec (.upstreamTransaction t x) s = .next (s1.forward s.serial a x).deliver
    let zeroed := exec (.upstreamTransaction t x) s = .next (s1.answer s.serial (.ok (zeros x.len))).deliver
    (s.classify x = some .plain → forwarded x.address.toNat)
    ∧ (s.classify x = some .control → isWrite x = false → forwarded x.address.toNat)
    ∧ (∀ m i y, s.classify x = some (.slot m i) → s.store.mods[m].slots[i]? = some y →
        (isWrite x = true → y.state = .free ∨ (∃ r, y.state = .ready r) ∧ y.holders = noHolders) →
        forwarded x.address.toNat)
    ∧ ∀ m e, s.classify x = some (.capture m) → s.path.captureWindows[m] = .active e → isWrite x = false →
        let off := x.address.toNat - e.start
        let slot := s.trackers[m].capture.fillSlot.or s.store.mods[m].ready.getLast?
        (∀ i y, off < s.trackers[m].record.area → slot = some i → s.store.mods[m].slots[i]? = some y →
          forwarded (y.base + off))
        ∧ (off < s.trackers[m].record.area → slot = none → zeroed)
        ∧ (s.trackers[m].record.area ≤ off → zeroed)

/-- R44: the fill slot granted is the lowest FREE slot, else the oldest READY slot with no holder, else none. -/
def Obligations.GrantRule : Prop :=
  ∀ ms : ModuleSlots,
    (∀ i y, ms.slots[i]? = some y → y.state = .free → (∀ j z, j < i → ms.slots[j]? = some z → z.state ≠ .free) →
      ms.grant = some i)
    ∧ ((∀ y ∈ ms.slots, y.state ≠ .free) →
        (∀ older i newer, ms.ready = older ++ i :: newer →
          (∃ y r, ms.slots[i]? = some y ∧ y.state = .ready r ∧ y.holders = noHolders) →
          (∀ j ∈ older, ∀ y, ms.slots[j]? = some y → y.holders ≠ noHolders) → ms.grant = some i)
        ∧ ((∀ j ∈ ms.ready, ∀ y, ms.slots[j]? = some y → y.holders ≠ noHolders) → ms.grant = none))

/-- R24: the pixels counted of a write are the pixel words that lie whole inside it, in rows below the height and columns
below the width, with the low 10 bits of the word as luma, in increasing address order. R108, R109: a fresh accumulator is
empty, and a counted pixel inside its rectangle enters its column bin, its row bin and the total, each up to 2^64 - 1; one
outside changes nothing. -/
def Obligations.CountedPixelsAreExact : Prop :=
  (∀ (r : ModuleRecord) (off : Nat) (bytes : List Byte),
    (r.stride % 64 = 0 → 64 ≤ r.width → 4 * r.width ≤ r.stride →
    (∀ p, p ∈ countedPixels r off bytes ↔
      p.row < r.height ∧ p.col < r.width ∧ off ≤ p.row * r.stride + 4 * p.col
        ∧ p.row * r.stride + 4 * p.col + 4 ≤ off + bytes.length
        ∧ p.luma = fieldAt bytes (p.row * r.stride + 4 * p.col - off) 4 % 1024)
    ∧ (countedPixels r off bytes).Pairwise fun a b => a.row * r.stride + 4 * a.col < b.row * r.stride + 4 * b.col))
  ∧ (∀ (r : Rect) (i : Fin 64), (Profile.fresh r).rect = r ∧ (Profile.fresh r).cols[i] = { sum := 0, count := 0 }
      ∧ (Profile.fresh r).rows[i] = { sum := 0, count := 0 } ∧ (Profile.fresh r).total = { sum := 0, count := 0 })
  ∧ ∀ (a : Profile) (p : CountedPixel),
    let x := (p.col : Int) - a.rect.left
    let y := (p.row : Int) - a.rect.top
    let added := fun b : Bin => Bin.mk (min (b.sum + p.luma) (2 ^ 64 - 1)) (min (b.count + 1) (2 ^ 64 - 1))
    (¬(0 ≤ x ∧ x < a.rect.width ∧ 0 ≤ y ∧ y < a.rect.height) → a.addPixel p = a)
    ∧ (0 ≤ x → x < a.rect.width → 0 ≤ y → y < a.rect.height →
      (a.addPixel p).rect = a.rect ∧ (a.addPixel p).total = added a.total
      ∧ ∀ i : Fin 64,
        (a.addPixel p).cols[i] = (if (i.val : Int) = x * 64 / a.rect.width then added a.cols[i] else a.cols[i])
        ∧ (a.addPixel p).rows[i] = (if (i.val : Int) = y * 64 / a.rect.height then added a.rows[i] else a.rows[i]))

/-- R9, R10, R23 to R25, R108: an owner's pixel write goes to the fill slot at the same offset and its counted pixels into
the accumulator; an IDLE module first opens a frame, into a granted slot or, without one, into DISCARDING with
FRAME_DISCARDED; a DISCARDING module's write is dropped with an OK answer. -/
def Obligations.PixelWriteTakes : Prop :=
  ∀ (t : Time) (x : Transaction) (m : ModuleId) (e : Extent) (s : State), s.path.waiting = [] →
    s.cfg.carveBase ≤ x.address.toNat → x.address.toNat < s.cfg.carveBase + s.cfg.carveSize →
    s.classify x = some (.capture m) → s.path.captureWindows[m] = .active e → isWrite x = true →
    x.requester = s.trackers[m].record.owner →
    let off := x.address.toNat - e.start
    off < s.trackers[m].record.area →
    let s1 := (s.atTime t).enqueue x.requester
    let count := fun a : Profile => (countedPixels s.trackers[m].record off (writeBytes x)).foldl Profile.addPixel a
    let capture := fun (s : State) (c : Capture) =>
      ({ s with trackers := s.trackers.set m { s.trackers[m] with capture := c } } : State)
    (∀ i acc y, s.trackers[m].capture = .filling i acc → s.store.mods[m].slots[i]? = some y →
      exec (.upstreamTransaction t x) s =
        .next ((capture s1 (.filling i (acc.map count))).forward s.serial (y.base + off) x).deliver)
    ∧ (∀ i y, s.trackers[m].capture = .idle → s.store.mods[m].grant = some i → s.store.mods[m].slots[i]? = some y →
      exec (.upstreamTransaction t x) s =
        .next (({ capture s1 (.filling i (s.ctl.mods[m].rect.map fun r => count (Profile.fresh r))) with
            store :=
              { s.store with
                mods := s.store.mods.set m
                  { s.store.mods[m] with
                    slots := s.store.mods[m].slots.modify i fun z => { z with state := .filling, holders := noHolders }
                    ready := s.store.mods[m].ready.filter (· != i) } } } : State).forward s.serial (y.base + off)
          x).deliver)
    ∧ (s.trackers[m].capture = .idle → s.store.mods[m].grant = none →
      exec (.upstreamTransaction t x) s =
        .next (((capture s1 .discarding).raise
          { kind := .frameDiscarded, subject := m.val, second := 0, frame := s.trackers[m].record.lastTrailer
            reason := 0 }).answer s.serial (.ok [])).deliver)
    ∧ (s.trackers[m].capture = .discarding →
      exec (.upstreamTransaction t x) s = .next (s1.answer s.serial (.ok [])).deliver)

/-- R26 to R30, R32, R41, R45, R82: a well-formed trailer. While FILLING a good one closes the frame into a READY slot
at the tail of the ready list and lets the Registration Unit look for a pair, any other returns the slot FREE with
TRAILER_BAD; while DISCARDING the frame ends; while IDLE it raises TRAILER_BAD "idle". Each renews liveness, with
MODULE_LIVE for a STALE module. That TRAILER_BAD goes before MODULE_LIVE is the model's choice (log 17). -/
def Obligations.TrailerTakes : Prop :=
  ∀ (t : Time) (x : Transaction) (m : ModuleId) (e : Extent) (s : State), s.path.waiting = [] →
    s.cfg.carveBase ≤ x.address.toNat → x.address.toNat < s.cfg.carveBase + s.cfg.carveSize →
    s.classify x = some (.capture m) → s.path.captureWindows[m] = .active e → isWrite x = true →
    x.requester = s.trackers[m].record.owner → x.len = 64 →
    x.address.toNat - e.start = s.trackers[m].record.area →
    t.toNat + s.trackers[m].record.staleLimit < 2 ^ 64 →
    let b := writeBytes x
    let frame : Word := word (fieldAt b 0 4)
    let suspect := fieldAt b 24 4 % 2 = 1
    let invalid := ¬suspect ∧ (fieldAt b 16 4 = 0 ∨ fieldAt b 20 2 = 0)
    let s1 := (s.atTime t).enqueue x.requester
    let idle := fun s : State =>
      ({ s with trackers := s.trackers.set m { s.trackers[m] with capture := .idle } } : State)
    let bad := fun (s : State) (reason : Nat) =>
      s.raise { kind := .trailerBad, subject := m.val, second := 0, frame := frame, reason := reason }
    let renew := fun s' : State =>
      let s2 := ({ s' with
        trackers := s'.trackers.set m
          { record := { s.trackers[m].record with lastTrailer := frame }, capture := s'.trackers[m].capture
            deadline := some (BitVec.ofNat 64 (t.toNat + s.trackers[m].record.staleLimit)) } } : State)
      if s.trackers[m].deadline.isSome then s2
      else s2.raise { kind := .moduleLive, subject := m.val, second := 0, frame := frame, reason := 0 }
    let slots := fun (i : Nat) (st : SlotState) =>
      s.store.mods[m].slots.modify i fun z => { z with state := st, holders := noHolders }
    let ends := fun s' : State => exec (.upstreamTransaction t x) s = .next (s'.answer s.serial (.ok [])).deliver
    (∀ i acc, s.trackers[m].capture = .filling i acc →
      (¬suspect → ¬invalid →
        let r : FrameRecord :=
          { frame := frame, start := BitVec.ofNat 64 (fieldAt b 8 8), duration := fieldAt b 16 4, gain := fieldAt b 20 2
            focus := min 1023 (fieldAt b 22 2)
            midpoint := BitVec.ofNat 64 (fieldAt b 8 8 % 2 ^ 64 + fieldAt b 16 4 / 2)
            closeOrder := s.store.closeOrder + 1, profile := acc }
        let s2 := renew (idle ({ s1 with
          store :=
            { closeOrder := s.store.closeOrder + 1
              mods := s.store.mods.set m
                { s.store.mods[m] with slots := slots i (.ready r), ready := s.store.mods[m].ready ++ [i] } } } : State))
        ends (({ s2 with
          ctl := { s.ctl with mods := s.ctl.mods.set m { s.ctl.mods[m] with barred := false } } } :
          State).lookForPair m))
      ∧ (suspect ∨ invalid →
        ends (renew (bad (idle ({ s1 with
          store := { s.store with mods := s.store.mods.set m { s.store.mods[m] with slots := slots i .free } } } :
          State)) (if suspect then 3 else 2)))))
    ∧ (s.trackers[m].capture = .discarding →
      (¬suspect → ¬invalid → ends (renew (idle s1)))
      ∧ (suspect ∨ invalid → ends (renew (bad (idle s1) (if suspect then 3 else 2)))))
    ∧ (s.trackers[m].capture = .idle → ends (renew (bad s1 0)))

/-- R31: a trailer-page write that is no well-formed trailer is answered OK; it discards an open frame, its slot going
FREE, with TRAILER_BAD "malformed" and the last trailer number, and does nothing while IDLE. Liveness and the last
trailer number stay. -/
def Obligations.MalformedTrailerDiscards : Prop :=
  ∀ (t : Time) (x : Transaction) (m : ModuleId) (e : Extent) (s : State), s.path.waiting = [] →
    s.cfg.carveBase ≤ x.address.toNat → x.address.toNat < s.cfg.carveBase + s.cfg.carveSize →
    s.classify x = some (.capture m) → s.path.captureWindows[m] = .active e → isWrite x = true →
    x.requester = s.trackers[m].record.owner →
    s.trackers[m].record.area ≤ x.address.toNat - e.start →
    ¬(x.len = 64 ∧ x.address.toNat - e.start = s.trackers[m].record.area) →
    let s1 := (s.atTime t).enqueue x.requester
    let discarded := fun s : State =>
      ({ s with trackers := s.trackers.set m { s.trackers[m] with capture := .idle } } : State).raise
        { kind := .trailerBad, subject := m.val, second := 0, frame := s.trackers[m].record.lastTrailer, reason := 1 }
    let ends := fun s' : State => exec (.upstreamTransaction t x) s = .next (s'.answer s.serial (.ok [])).deliver
    (∀ i acc, s.trackers[m].capture = .filling i acc →
      ends (discarded { s1 with
        store :=
          { s.store with
            mods := s.store.mods.set m
              { s.store.mods[m] with
                slots := s.store.mods[m].slots.modify i fun z => { z with state := .free, holders := noHolders } } } }))
    ∧ (s.trackers[m].capture = .discarding → ends (discarded s1))
    ∧ (s.trackers[m].capture = .idle → ends s1)

/-- R129, R131, R132, R138, R143, R146: an accepted view read takes the lowest free entry and its tag goes up by one.
Before the view's first header read it is answered at once, black in the picture and zero elsewhere; a header read that
need not wait opens an output frame and is answered with its header; a read that belongs to a waiting header read's
frame waits; on the OPEN output frame a header-page read is answered at once, and a pixel read issues the first 64
fetches of its fetch set, each with the view's timeout as deadline, keeps the others waiting, and is COMPLETE where the
set is empty (R147, R149). -/
def Obligations.ViewReadTakes : Prop :=
  ∀ (t : Time) (x : Transaction) (v : ViewId) (w : Extent) (e : EntryId) (s : State), s.path.waiting = [] →
    s.cfg.carveBase ≤ x.address.toNat → x.address.toNat < s.cfg.carveBase + s.cfg.carveSize →
    s.classify x = some (.view v) → s.path.viewWindows[v] = .active w → isWrite x = false →
    s.comp.table[e].read = none → (∀ k : EntryId, k < e → s.comp.table[k].read ≠ none) →
    let off := x.address.toNat - w.start
    let s0 := (s.atTime t).enqueue x.requester
    let s1 := ({ s0 with
      comp := { s.comp with table := s.comp.table.set e { s.comp.table[e] with tag := s.comp.table[e].tag + 1 } } } :
      State)
    let ends := fun s' : State => exec (.upstreamTransaction t x) s = .next s'.deliver
    (off ≠ 0 → s.waitingHeaders v = [] → s.comp.views[v].openedSinceEnable = false →
      let y := s.comp.views[v]
      let black : List Byte := leBytes 4 (512 * 1024 + 512 * 1048576)
      let s2 := s1.answer s.serial (.ok ((List.range x.len).map fun i =>
        let b := off + i - 4096
        if 4096 ≤ off + i ∧ b / y.stride < y.height ∧ b % y.stride < 4 * y.width then black.getD (b % y.stride % 4) 0
        else 0))
      ends (if s.comp.views[v].unopenedReported then s2
        else (s2.modView v fun y => { y with unopenedReported := true }).raise
          { kind := .viewUnopened, subject := v.val, second := 0, frame := s.comp.views[v].counter, reason := 0 }))
    ∧ (off = 0 → s.waitingHeaders v = [] → s.drainBlocked v = false →
      ∃ o f, (s1.openFrame v).comp.views[v].frame f = some o ∧ o.status = .opened
        ∧ o.number = s.comp.views[v].counter + 1
        ∧ ends ((s1.openFrame v).answer s.serial (.ok ((List.range x.len).map fun i => (headerBytes o).getD i 0))))
    ∧ (off = 0 → s.waitingHeaders v ≠ [] ∨ s.drainBlocked v = true →
      ends (s1.putRead e (newRead x.requester s.serial v .header 0 x.len (.awaiting s.serial) .waitingOpen)))
    ∧ (∀ p, off ≠ 0 → (s.waitingHeaders v).getLast? = some p →
      ends (s1.putRead e
        (newRead x.requester s.serial v (if off < 4096 then .header else .pixel) off x.len (.awaiting p) .waitingOpen)))
    ∧ ∀ f o, off ≠ 0 → s.waitingHeaders v = [] → s.comp.views[v].openedSinceEnable = true →
      s.comp.views[v].openName = some f → s.comp.views[v].frame f = some o →
      (off < 4096 → ends (s1.answer s.serial (.ok (headerPage o off x.len))))
      ∧ (4096 ≤ off →
        let r := newRead x.requester s.serial v .pixel off x.len (.record f) .fetching
        let set := fetchSet s.comp.views[v] o off x.len
        ends (s1.beginFetch e r f o)
        ∧ (set = [] → s1.beginFetch e r f o = s1.putRead e { r with state := .complete })
        ∧ (set ≠ [] → t.toNat + s.comp.views[v].timeout < 2 ^ 64 →
          s1.beginFetch e r f o =
            { s1.putRead e { r with
                outstanding := (set.take 64).mapIdx fun i y =>
                  { id := s.serial + 1 + i, spec := y
                    deadline := BitVec.ofNat 64 (t.toNat + s.comp.views[v].timeout) }
                toIssue := set.drop 64 } with
              serial := s.serial + 1 + (set.take 64).length }))

/-- R64 to R71, R86, R88, R130, R132 to R135, R137: the opening of an output frame. The counter goes up and the Controller advances
where the view is pacing, the lowest-numbered enabled one (R86), publishing the items of R88 (O60 says what an advance
does). The new frame is OPEN in the free record, with the published
composition latched. Each involved module has a part: its newest slot, or while frozen the one under the freeze holder;
base, frame number, midpoint and focus code of that slot; gain, centre, and the offsets from parallax and refinement; the
step for the view's width, clamped; its coverage at the corners. The flags are those of R137, and COVERAGE is raised where
the coverage flag is set. The frame that was OPEN becomes DRAINING, or closes if no read is in flight on it. The pinned
slots get the new frame's holder, a closed frame's holder leaves every slot, and nothing else changes. -/
def Obligations.OpenFrameOpens : Prop :=
  let published := fun c : Controller =>
    ({ phase := c.phase, alpha := c.alpha, direction := c.direction, unrefined := c.unrefined, frozen := c.frozen
       zq := c.zq, field := c.field
       mods := c.mods.map fun x => { gain := x.gain, rx := x.rx, ry := x.ry, calibration := x.calibration } } : Published)
  (∀ s : State,
    (∀ v, s.pacingView = some v ↔ s.comp.views[v].enabled = true ∧ ∀ u < v, s.comp.views[u].enabled = false)
    ∧ (s.pacingView = none ↔ ∀ v : ViewId, s.comp.views[v].enabled = false))
  ∧ (∀ (v : ViewId) (s : State),
    let w := s.comp.views[v]
    let n := w.counter + 1
    let name : FrameName := if w.frameA = none then .a else .b
    let other : FrameName := if w.frameA = none then .b else .a
    let counted : State :=
      { s with
        comp := { s.comp with views := s.comp.views.set v { w with counter := n, openedSinceEnable := true } } }
    let s1 := if s.pacingView = some v then counted.advance { view := v, frame := n } else counted
    let latched := s1.ctl.published
    let s' := s.openFrame v
    let reads := ∃ (e : EntryId) (r : ReadEntry), s.comp.table[e].read = some r ∧ r.view = v ∧ r.frame = .record other
    let wasOpen := ∃ o, w.frame other = some o ∧ o.status = .opened
    ∃ (o : OutputFrame) (kept : Option OutputFrame) (store : SlotStore),
      s' =
        { s with
          ctl := s1.ctl
          store := store
          comp :=
            { s.comp with
              views :=
                s.comp.views.set v
                  (({ w with counter := n, openedSinceEnable := true }.setFrame name (some o)).setFrame other kept) }
          agent :=
            if o.flags.coverage = true then
              (s1.raise { kind := .coverage, subject := v.val, second := 0, frame := n, reason := 0 }).agent
            else s1.agent }
      ∧ (s1.ctl = if s.pacingView = some v ∧ s.ctl.frozen = false then
          let c := (advanceStages counted { view := v, frame := n }).ctl
          { c with published := published c }
        else s.ctl)
      ∧ (¬wasOpen → kept = w.frame other) ∧ (wasOpen → ¬reads → kept = none)
      ∧ (wasOpen → reads → kept = (w.frame other).map fun x => { x with status := .draining })
      ∧ o.status = .opened ∧ o.number = n ∧ o.latched = latched
      ∧ o.serving.map (·.module) = latched.phase.serving ∧ o.second.map (·.module) = latched.phase.second
      ∧ (let involved := fun p => o.serving = some p ∨ o.second = some p
        (∀ p, involved p →
          let c := latched.mods[p.module]
          let slot := p.slot.bind fun i => s.store.mods[p.module].slots[i]?
          let raw := (2 * (latched.field.width * c.calibration.scale * 65536) + latched.zq * w.width)
            / (2 * (latched.zq * w.width))
          let coord := fun (centre offset : Int) (size i : Nat) =>
            (2 * (centre + offset) + (2 * (i : Int) + 1 - size) * p.step + 256) / 512
          let outside := fun (size : Nat) (x : Int) => x < 0 ∨ 256 * ((size : Int) - 1) < x
          (p.slot = if latched.frozen then s.store.mods[p.module].slotWith .freeze
            else s.store.mods[p.module].ready.getLast?)
          ∧ p.gain = c.gain ∧ p.cx = c.calibration.cx ∧ p.cy = c.calibration.cy
          ∧ p.width = s.trackers[p.module].record.width ∧ p.height = s.trackers[p.module].record.height
          ∧ p.stride = s.trackers[p.module].record.stride
          ∧ (∀ y r, slot = some y → y.state = .ready r →
            p.base = y.base ∧ p.frame = r.frame ∧ p.midpoint = r.midpoint ∧ p.focus = r.focus
            ∧ p.ox = 4096 * parallax (·.dx) c.calibration.parallax r.focus + c.rx
            ∧ p.oy = 4096 * parallax (·.dy) c.calibration.parallax r.focus + c.ry)
          ∧ (p.slot = none → p.base = 0 ∧ p.frame = 0 ∧ p.midpoint = 0 ∧ p.focus = 0 ∧ p.ox = 0 ∧ p.oy = 0)
          ∧ p.step = max 1 (min 1048575 raw) ∧ (p.stepClamped = true ↔ raw < 1 ∨ 1048575 < raw)
          ∧ (p.coverageFailed = true ↔ p.slot ≠ none
            ∧ ((∃ i, (i = 0 ∨ i = w.width - 1) ∧ outside p.width (coord p.cx p.ox w.width i))
              ∨ ∃ i, (i = 0 ∨ i = w.height - 1) ∧ outside p.height (coord p.cy p.oy w.height i))))
        ∧ (o.flags.coverage = true ↔ ∃ p, involved p ∧ p.coverageFailed = true)
        ∧ (o.flags.noFrame = true ↔ o.serving = none ∨ ∃ p, involved p ∧ p.slot = none)
        ∧ (o.flags.stepClamped = true ↔ ∃ p, involved p ∧ p.stepClamped = true)
        ∧ (o.flags.unrefined = true ↔ (∃ a b, latched.phase = .fading a b) ∧ latched.unrefined = true)
        ∧ o.flags.frozen = latched.frozen ∧ (o.flags.starved = true ↔ ∃ a, latched.phase = .starved a)
        ∧ (o.flags.returning = true ↔ (∃ a b, latched.phase = .fading a b) ∧ latched.direction = .returning)
        ∧ store.closeOrder = s.store.closeOrder
        ∧ ∀ m : ModuleId,
          store.mods[m].ready = s.store.mods[m].ready ∧ store.mods[m].tickets = s.store.mods[m].tickets
          ∧ store.mods[m].slots.length = s.store.mods[m].slots.length
          ∧ ∀ (i : Nat) (y y' : Slot), s.store.mods[m].slots[i]? = some y → store.mods[m].slots[i]? = some y' →
            y'.base = y.base ∧ y'.size = y.size ∧ y'.state = y.state
            ∧ ∀ h : Holder,
              let pinned := h = .frame v name ∧ (∃ r, y.state = .ready r)
                ∧ ∃ p, involved p ∧ p.module = m ∧ p.slot = some i
              let left := h = .frame v other ∧ wasOpen ∧ ¬reads
              (pinned → y'.holders[h.index] = true) ∧ (left → y'.holders[h.index] = false)
              ∧ (¬pinned → ¬left → y'.holders[h.index] = y.holders[h.index])))
  ∧ ∀ (d : ParallaxEntry → Int) (table : List ParallaxEntry) (f : Nat),
    (table = [] → parallax d table f = 0)
    ∧ (∀ e rest, table = e :: rest → f ≤ e.focus → parallax d table f = d e)
    ∧ (table.Pairwise (fun x y => x.focus < y.focus) →
      (∀ e, table.getLast? = some e → e.focus ≤ f → parallax d table f = d e)
      ∧ ∀ pre e e' post, table = pre ++ e :: e' :: post → e.focus < f → f < e'.focus →
        let den : Int := (e'.focus : Int) - e.focus
        let num := d e * den + (d e' - d e) * ((f : Int) - e.focus)
        parallax d table f = if 0 ≤ num then (2 * num + den) / (2 * den) else -((2 * -num + den) / (2 * den)))

/-! ### Answers, deadlines, computations -/

/-- R17: of each requester's queue, what is returned is a first part in acceptance order, each answer the one that was
ready in its place, and the oldest entry that stays is not ready. -/
def Obligations.AnswersReturnInOrder : Prop :=
  ∀ (s : State) (r : Byte),
    let s' := s.deliver
    ∃ out, s'.path.returned = s.path.returned ++ out
      ∧ ((out.filter (·.requester == r)).map (·.place)) ++ ((s'.path.queue.filter (·.requester == r)).map (·.place))
          = (s.path.queue.filter (·.requester == r)).map (·.place)
      ∧ (∀ y ∈ out, ∃ e ∈ s.path.queue, e.requester = y.requester ∧ e.place = y.place ∧ e.answer = some y.answer)
      ∧ (∀ e ∈ s'.path.queue, e ∈ s.path.queue)
      ∧ ∀ e, s'.path.queue.find? (·.requester == r) = some e → e.answer = none

/-- R17, 1.1, R169: memory's answer makes the answer of the forwarded transaction ready in its place, data for a read,
none for a write, or an error; the transaction is then no longer at memory. Memory's answer to a write of the Agent, an
error or not, changes nothing but the model's note of it. -/
def Obligations.MemoryAnswersAreTaken : Prop :=
  (∀ (t : Time) (place : Nat) (d : Downstream) (s : State), s.path.downstream.find? (·.place == place) = some d →
      let answered := fun a : Answer =>
        (({ s.atTime t with path := { s.path with downstream := s.path.downstream.filter (·.place != place) } } :
          State).answer place a).deliver
      (∀ p, d.bytes = none → exec (.memoryAnswer t place (.data p)) s = .next (answered (.ok (p.toList.take d.len))))
      ∧ (∀ p, d.bytes ≠ none → exec (.memoryAnswer t place (.data p)) s = .next (answered (.ok [])))
      ∧ exec (.memoryAnswer t place .error) s = .next (answered .error))
    ∧ ∀ (t : Time) (n : Nat) (err : Bool) (w : OwnWrite) (s : State),
        s.agent.writes[n]? = some w → w.answered = none →
        exec (.agentWriteAnswer t n err) s =
          .next { s.atTime t with
            agent := { s.agent with writes := s.agent.writes.set n { w with answered := some err } } }

/-- R33: an expired deadline makes the module STALE, drops an open frame, its slot going FREE, and raises MODULE_STALE;
the READY slots and the ready list stay. That an event before the deadline changes nothing is the model's reading (log
5). -/
def Obligations.LivenessExpiryTakes : Prop :=
  ∀ (t : Time) (m : ModuleId) (d : Time) (s : State), s.trackers[m].deadline = some d →
    (d.toNat ≤ t.toNat →
      let stale := fun (c : Capture) (ms : ModuleSlots) =>
        ({ s.atTime t with
          trackers := s.trackers.set m { s.trackers[m] with capture := c, deadline := none }
          store := { s.store with mods := s.store.mods.set m ms } } : State).raise
          { kind := .moduleStale, subject := m.val, second := 0, frame := s.trackers[m].record.lastTrailer, reason := 0 }
      (∀ i acc, s.trackers[m].capture = .filling i acc →
        exec (.livenessExpiry t m) s = .next (stale .idle
          { s.store.mods[m] with
            slots := s.store.mods[m].slots.modify i fun z => { z with state := .free, holders := noHolders } }))
      ∧ (s.trackers[m].capture = .discarding → exec (.livenessExpiry t m) s = .next (stale .idle s.store.mods[m]))
      ∧ (s.trackers[m].capture = .idle → exec (.livenessExpiry t m) s = .next (stale .idle s.store.mods[m])))
    ∧ (t.toNat < d.toNat → exec (.livenessExpiry t m) s = .next (s.atTime t))

/-- R112: a good close of S or I during a preparation, with the Unit IDLE and no success of the current generation at
hand, makes the Unit COMPUTING where the two newest frames exist, carry profiles of the current generation, come of LIVE
modules with their reset marks clear, and have midpoints within the pair tolerance. A close that lacks one of these
conditions, a newest frame or its profile record among them, has no effect on the Unit. -/
def Obligations.PairTestTakes : Prop :=
  ∀ (m : ModuleId) (s : State),
    (∀ sm im fs fi ps pi, s.reg.context = none → s.ctl.phase = .preparing sm im → m = sm ∨ m = im →
      (∀ r, s.reg.last = some r → r.outcome.failure ≠ none ∨ r.generation ≠ s.ctl.generation) →
      s.store.mods[sm].newestRecord = some fs → s.store.mods[im].newestRecord = some fi →
      fs.profile = some ps → fi.profile = some pi →
      let meets :=
        ps.rect.generation = s.ctl.generation ∧ pi.rect.generation = s.ctl.generation
          ∧ s.trackers[sm].deadline.isSome = true ∧ s.trackers[im].deadline.isSome = true
          ∧ s.ctl.mods[sm].resetMark = false ∧ s.ctl.mods[im].resetMark = false
          ∧ fs.midpoint.toNat ≤ fi.midpoint.toNat + s.ctl.params.tolerance
          ∧ fi.midpoint.toNat ≤ fs.midpoint.toNat + s.ctl.params.tolerance
      (meets →
        s.lookForPair m =
          { s with
            reg :=
              { s.reg with
                context := some
                  { serving := sm, incoming := im, generation := s.ctl.generation, quality := s.ctl.params.quality
                    servingProfile := ps, incomingProfile := pi, servingFrame := fs.frame, incomingFrame := fi.frame } } })
      ∧ (¬meets → s.lookForPair m = s))
    ∧ (∀ sm im, s.ctl.phase = .preparing sm im →
        s.store.mods[sm].newestRecord = none ∨ s.store.mods[im].newestRecord = none → s.lookForPair m = s)
    ∧ (∀ sm im fs fi, s.ctl.phase = .preparing sm im →
        s.store.mods[sm].newestRecord = some fs → s.store.mods[im].newestRecord = some fi →
        fs.profile = none ∨ fi.profile = none → s.lookForPair m = s)
    ∧ ((∃ c, s.reg.context = some c) → s.lookForPair m = s)
    ∧ ((∀ sm im, s.ctl.phase = .preparing sm im → m ≠ sm ∧ m ≠ im) → s.lookForPair m = s)
    ∧ ((∃ r, s.reg.last = some r ∧ r.outcome.failure = none ∧ r.generation = s.ctl.generation) → s.lookForPair m = s)

/-- R121: the completion of a computation: the result becomes the last result where the context's generation is the
Controller's, and is dropped otherwise; the Unit becomes IDLE; nothing else changes and no event is raised. R114 to
R120: the result carries the context's generation, modules and frame numbers, the relative gain of the two totals, and,
with each axis judged by its norms (`AxisFits`), a success with its refinement or the first failing axis. -/
def Obligations.RegistrationCompletes : Prop :=
  (∀ (t : Time) (c : RegContext) (s : State), s.reg.context = some c →
    (c.generation = s.ctl.generation →
      exec (.registrationCompletion t) s =
        .next { s.atTime t with reg := { context := none, last := some c.compute } })
    ∧ (c.generation ≠ s.ctl.generation →
      exec (.registrationCompletion t) s = .next { s.atTime t with reg := { s.reg with context := none } }))
  ∧ ∀ c : RegContext,
    let r := c.compute
    let S := c.servingProfile.total
    let I := c.incomingProfile.total
    let limited := fun x : Int => max (-2147483648) (min 2147483647 x)
    r.generation = c.generation ∧ r.serving = c.serving ∧ r.incoming = c.incoming
    ∧ r.servingFrame = c.servingFrame ∧ r.incomingFrame = c.incomingFrame
    ∧ (I.sum = 0 ∨ S.count = 0 ∨ I.count = 0 → r.gRel = 16384)
    ∧ (I.sum ≠ 0 → S.count ≠ 0 → I.count ≠ 0 →
        r.gRel = max 4096 (min 65535
          ((2 * (16384 * S.sum * I.count) + S.count * I.sum) / (2 * (S.count * I.sum)))))
    ∧ ∃ h v : Except AxisFailure AxisFit,
      AxisFits c.servingProfile.cols c.incomingProfile.cols r.gRel c.quality h
      ∧ AxisFits c.servingProfile.rows c.incomingProfile.rows r.gRel c.quality v
      ∧ (∀ e, h = .error e → r.outcome = .failHorizontal e)
      ∧ (∀ f e, h = .ok f → v = .error e → r.outcome = .failVertical f e)
      ∧ ∀ f g, h = .ok f → v = .ok g →
        r.outcome = .success f g (limited ((256 * f.shift + f.frac) * c.incomingProfile.rect.width * 4))
          (limited ((256 * g.shift + g.frac) * c.incomingProfile.rect.height * 4))

/-- R150, R152, R154, R149: a matched fetch answer with data leaves its words with the entry; a fetch that waited is
issued in its place; with none left the entry is COMPLETE. An error fails the entry, whose other fetches alone are still
outstanding. An answer with another tag, or for a fetch the entry does not have outstanding, or at an entry that is free or not
FETCHING, is late: it is discarded and changes no entry. R148,
R149: a fetch set reads, of each part with a slot, the source rows that the read's output pixels sample, on each from
the least to the greatest column they sample there: S before I, by increasing row and address, each word once, in pieces
of at most 256 bytes that cross no 4096-byte boundary. -/
def Obligations.FetchAnswerTakes : Prop :=
  (∀ (t : Time) (e : EntryId) (tag : Byte) (id : Nat) (r : ReadEntry) (s : State),
    s.comp.table[e].read = some r → r.state = .fetching →
    let put := fun r' : ReadEntry =>
      ({ s.atTime t with
        comp := { s.comp with table := s.comp.table.set e { s.comp.table[e] with read := some r' } } } : State)
    (∀ f p, s.comp.table[e].tag = tag → r.outstanding.find? (·.id == id) = some f →
      let left := r.outstanding.filter (·.id != id)
      let r1 := { r with
        outstanding := left
        source := r.source ++
          [{ second := f.spec.second, row := f.spec.row, col := f.spec.col, words := fetchWords f.spec p }] }
      (r.toIssue = [] → left ≠ [] →
        exec (.fetchAnswer t e tag id (.data p)) s = .next (put r1).finish)
      ∧ (r.toIssue = [] → left = [] →
        exec (.fetchAnswer t e tag id (.data p)) s = .next (put { r1 with state := .complete }).finish)
      ∧ (∀ y ys, r.toIssue = y :: ys → left.length < 64 → t.toNat + s.comp.views[r.view].timeout < 2 ^ 64 →
        let issued : Fetch :=
          { id := s.serial, spec := y, deadline := BitVec.ofNat 64 (t.toNat + s.comp.views[r.view].timeout) }
        exec (.fetchAnswer t e tag id (.data p)) s =
          .next ({ put { r1 with outstanding := left ++ [issued], toIssue := ys } with
            serial := s.serial + 1 } : State).finish)
      ∧ exec (.fetchAnswer t e tag id .error) s =
          .next ((s.atTime t).failEntry e { r with outstanding := left } f.spec.module 0).finish)
    ∧ ∀ a, s.comp.table[e].tag ≠ tag ∨ r.outstanding.find? (·.id == id) = none →
        exec (.fetchAnswer t e tag id a) s =
          .next ({ s.atTime t with comp := { s.comp with withdrawn := s.comp.withdrawn.filter (·.id != id) } } :
            State).finish)
  ∧ (∀ (t : Time) (e : EntryId) (tag : Byte) (id : Nat) (a : MemAnswer) (s : State),
    (∀ r, s.comp.table[e].read = some r → r.state ≠ .fetching) →
    exec (.fetchAnswer t e tag id a) s =
      .next ({ s.atTime t with comp := { s.comp with withdrawn := s.comp.withdrawn.filter (·.id != id) } } :
        State).finish)
  ∧ ∀ (w : View) (o : OutputFrame) (off len : Nat), 4096 ≤ off → 0 < len → 0 < w.stride →
    let part := fun second : Bool => if second then o.second else o.serving
    let covered := fun x y : Nat => y < w.height ∧ x < w.width
      ∧ ∃ b, off - 4096 ≤ b ∧ b < off - 4096 + len ∧ b / w.stride = y ∧ b % w.stride / 4 = x
    (∀ second p x y, part second = some p → p.slot ≠ none → covered x y →
      ∀ row col, row = (p.sampleY w y).at0 ∨ row = (p.sampleY w y).at1 →
        col = (p.sampleX w x).at0 ∨ col = (p.sampleX w x).at1 →
        ∃ f ∈ fetchSet w o off len, f.second = second ∧ f.row = row ∧ f.col ≤ col ∧ col < f.col + f.words)
    ∧ (∀ f ∈ fetchSet w o off len, ∃ p, part f.second = some p ∧ p.slot ≠ none ∧ f.module = p.module
        ∧ f.address = p.base + f.row * p.stride + 4 * f.col ∧ 1 ≤ f.words ∧ f.words ≤ 64
        ∧ (p.base % 4 = 0 → p.stride % 4 = 0 → f.address % 4096 + 4 * f.words ≤ 4096)
        ∧ ∃ x0 x1 y0 y1, covered x0 y0 ∧ covered x1 y1
          ∧ (f.row = (p.sampleY w y0).at0 ∨ f.row = (p.sampleY w y0).at1)
          ∧ (f.row = (p.sampleY w y1).at0 ∨ f.row = (p.sampleY w y1).at1)
          ∧ (p.sampleX w x0).at0 ≤ f.col ∧ f.col + f.words ≤ (p.sampleX w x1).at1 + 1)
    ∧ (fetchSet w o off len).Pairwise fun f g =>
        f.second = false ∧ g.second = true
        ∨ f.second = g.second ∧ (f.row < g.row ∨ f.row = g.row ∧ f.col + f.words ≤ g.col)

/-- R152, R153: an entry whose earliest deadline is reached fails, naming the module of a fetch with that deadline, S
before I; that an event with no deadline reached changes nothing is the model's reading (log 5). The failure of an entry
places an error answer, raises FETCH_ERROR, frees the entry, marks its fetches withdrawn, and then deals with its output
frame as a completion does. -/
def Obligations.FetchTimeoutFailsTheEntry : Prop :=
  (∀ (t : Time) (e : EntryId) (r : ReadEntry) (s : State), s.comp.table[e].read = some r → r.state = .fetching →
      (∀ f ∈ r.outstanding, f.deadline.toNat ≤ t.toNat → (∀ g ∈ r.outstanding, f.deadline.toNat ≤ g.deadline.toNat) →
        (f.spec.second = true → ∀ g ∈ r.outstanding, g.deadline = f.deadline → g.spec.second = true) →
        (∀ g ∈ r.outstanding, g.spec.second = f.spec.second → g.spec.module = f.spec.module) →
        exec (.fetchTimeout t e) s = .next ((s.atTime t).failEntry e r f.spec.module 1).finish)
      ∧ ((∀ f ∈ r.outstanding, t.toNat < f.deadline.toNat) → exec (.fetchTimeout t e) s = .next (s.atTime t).finish))
    ∧ ∀ (e : EntryId) (r : ReadEntry) (m : ModuleId) (reason : Nat) (f : FrameName) (o : OutputFrame) (s : State),
        r.frame = .record f → s.comp.views[r.view].frame f = some o →
        let s1 := (s.answer r.place .error).raise
          { kind := .fetchError, subject := r.view.val, second := m.val, frame := o.number, reason := reason }
        s.failEntry e r m reason =
          ({ s1 with
            comp :=
              { s.comp with
                table := s.comp.table.set e { s.comp.table[e] with read := none }
                withdrawn := s.comp.withdrawn ++
                  r.outstanding.map fun y => { entry := e, tag := s.comp.table[e].tag, id := y.id } } } :
            State).afterLeave r.view

/-- R151, R139, R172: the completion of a COMPLETE entry: the answer's bytes, those of the pixel words and zero in padding
and rounded tail, placed, the entry freed, then what follows a read's leaving. R68, R69, R140 to R142: an output pixel is
S's corrected pixel, or in a fade S's and I's blended by alpha; a corrected pixel is black without a slot, else the
bilinear mean of the four source pixels around the clamped sample coordinate, its luma times the gain; a source word is the
one a fetched run of its row holds at its column. What follows a leaving is, for its view (R131, R135, R147, R151):
nothing, where no DRAINING output frame is without reads and no header read waits that may open; the close of a DRAINING
output frame without reads, its holders leaving every slot, and then what follows without it; and the opening of the
waiting header reads one after another, by their places, oldest first, until none waits or a DRAINING output frame has reads in flight
(the frame just opened is OPEN and holds back no other): at each opening every entry that belongs to the new output frame
leaves WAITING_OPEN in acceptance order, a header read answered and freed, a pixel read beginning its fetches. -/
def Obligations.ViewReadCompletes : Prop :=
  (∀ (t : Time) (e : EntryId) (r : ReadEntry) (f : FrameName) (o : OutputFrame) (s : State),
    s.comp.table[e].read = some r → r.state = .complete → r.frame = .record f →
    s.comp.views[r.view].frame f = some o →
    let w := s.comp.views[r.view]
    let bytes := (List.range r.len).map fun i =>
      let b := r.offset - 4096 + i
      if b / w.stride < w.height ∧ b % w.stride < 4 * w.width then
        let px := outputPixel w o r.source (b % w.stride / 4) (b / w.stride)
        BitVec.ofNat 8 ((px.y + 1024 * px.cb + 1048576 * px.cr) / 256 ^ (b % w.stride % 4))
      else 0
    exec (.viewReadCompletion t e) s =
      .next ((({ s.atTime t with
          comp := { s.comp with table := s.comp.table.set e { s.comp.table[e] with read := none } } } : State).answer
        r.place (.ok bytes)).afterLeave r.view).finish)
  ∧ (∀ (v : ViewId) (s : State),
    let readsIn := fun (z : State) (f : FrameName) => ∃ (e : EntryId) (r : ReadEntry),
      z.comp.table[e].read = some r ∧ r.view = v ∧ r.frame = .record f
    let drainingIn := fun (z : State) (f : FrameName) => ∃ o, z.comp.views[v].frame f = some o ∧ o.status = .draining
    let reads := readsIn s
    let draining := drainingIn s
    let blocked := fun z : State => ∃ f, drainingIn z f ∧ readsIn z f
    let opens := fun (z : State) (place : Nat) (z' : State) =>
      let z1 := z.openFrame v
      ∃ f o, z1.comp.views[v].openName = some f ∧ z1.comp.views[v].frame f = some o
        ∧ ∃ es : List (Nat × EntryId), es.Pairwise (fun a b => a.1 < b.1)
          ∧ (∀ x, x ∈ es ↔
            ∃ r, z1.comp.table[x.2].read = some r ∧ r.place = x.1 ∧ r.view = v ∧ r.frame = .awaiting place)
          ∧ z' = es.foldl (fun (y : State) x =>
            match y.comp.table[x.2].read with
            | none => y
            | some r =>
              if r.kind = .header then (y.answer r.place (.ok (headerPage o r.offset r.len))).freeEntry x.2
              else if r.kind = .pixel then y.beginFetch x.2 r f o else y) z1
    (∀ place, place ∈ s.waitingHeaders v ↔ ∃ (e : EntryId) (r : ReadEntry), s.comp.table[e].read = some r ∧ r.view = v
      ∧ r.kind = .header ∧ r.offset = 0 ∧ r.state = .waitingOpen ∧ r.place = place)
    ∧ (s.waitingHeaders v).Pairwise (· ≤ ·)
    ∧ ((∀ f, draining f → reads f) →
      (s.waitingHeaders v = [] ∨ (∃ f, draining f) → s.afterLeave v = s)
      ∧ ∀ (n : Nat) (z : Nat → State), z 0 = s → n ≤ (s.waitingHeaders v).length →
        (∀ k place, k < n → (s.waitingHeaders v)[k]? = some place → ¬blocked (z k) ∧ opens (z k) place (z (k + 1))) →
        (n = (s.waitingHeaders v).length ∨ blocked (z n)) → s.afterLeave v = z n)
    ∧ ∀ f, draining f → ¬reads f → ¬draining f.other →
        let closed : State :=
          { s with
            store := { s.store with mods := mapAll (·.unhold (.frame v f)) s.store.mods }
            comp := { s.comp with views := s.comp.views.set v (s.comp.views[v].setFrame f none) } }
        s.afterLeave v = closed.afterLeave v ∧ (s.waitingHeaders v = [] → s.afterLeave v = closed))
  ∧ (∀ (w : View) (o : OutputFrame) (source : List SourceRun) (x y : Nat),
    let sample := fun (centre offset : Int) (step n i size : Nat) =>
      (max 0 (min ((2 * (centre + offset) + (2 * (i : Int) + 1 - n) * step + 256) / 512) (256 * ((size : Int) - 1)))).toNat
    let interpolated := fun (second : Bool) (p : Machine.Part) (unit : Nat) =>
      let sx := sample p.cx p.ox p.step w.width x p.width
      let sy := sample p.cy p.oy p.step w.height y p.height
      let fx := sx % 256
      let fy := sy % 256
      let pixel := fun col row => (sourceWord source second row col).toNat / unit % 1024
      let right := min (sx / 256 + 1) (p.width - 1)
      let below := min (sy / 256 + 1) (p.height - 1)
      (pixel (sx / 256) (sy / 256) * (256 - fx) * (256 - fy) + pixel right (sy / 256) * fx * (256 - fy)
        + pixel (sx / 256) below * (256 - fx) * fy + pixel right below * fx * fy + 32768) / 65536
    let corrected := fun (second : Bool) (p : Machine.Part) =>
      if p.slot = none then Pixel.mk 0 512 512
      else
        Pixel.mk (min 1023 ((interpolated second p 1 * p.gain + 8192) / 16384)) (interpolated second p 1024)
          (interpolated second p 1048576)
    let mixed := fun a b : Nat => (a * (256 - o.latched.alpha) + b * o.latched.alpha + 128) / 256
    let a := o.serving.elim (Pixel.mk 0 512 512) (corrected false)
    (o.second = none → outputPixel w o source x y = a)
    ∧ ∀ q, o.second = some q →
      let b := corrected true q
      outputPixel w o source x y = Pixel.mk (mixed a.y b.y) (mixed a.cb b.cb) (mixed a.cr b.cr))
  ∧ ∀ (source pre post : List SourceRun) (run : SourceRun) (second : Bool) (row col : Nat),
    let holds := fun z : SourceRun => z.second = second ∧ z.row = row ∧ z.col ≤ col ∧ col < z.col + z.words.length
    source = pre ++ run :: post → (∀ z ∈ pre, ¬holds z) → holds run →
    run.words[col - run.col]? = some (sourceWord source second row col)

/-! ### The pacing advance -/

/-- R77, R78: a zoom step. A rate of 65536 jumps; else the zoom becomes its product with the rate (upward) or its quotient
by the rate (downward), over 65536, rounded to nearest with halves upward, and stopped at the target; where the rounded
value is the zoom itself, it moves by one unit. So a step moves toward the target without passing it, by at least one
unit. -/
def Obligations.ZoomStepApproaches : Prop :=
  ∀ zq zt r : Nat, 65536 ≤ r → r ≤ 131072 →
    (zq < zt → zq < zoomStep zq zt r ∧ zoomStep zq zt r ≤ zt)
    ∧ (zt < zq → zt ≤ zoomStep zq zt r ∧ zoomStep zq zt r < zq)
    ∧ zoomStep zt zt r = zt ∧ zoomStep zq zt 65536 = zt
    ∧ (r ≠ 65536 → ∀ z,
      (zq < zt → 2 * 65536 * z ≤ 2 * zq * r + 65536 → 2 * zq * r + 65536 < 2 * 65536 * (z + 1) →
        zoomStep zq zt r = if zt ≤ z then zt else if z = zq then zq + 1 else z)
      ∧ (zt < zq → 2 * r * z ≤ 2 * zq * 65536 + r → 2 * zq * 65536 + r < 2 * r * (z + 1) →
        zoomStep zq zt r = if z ≤ zt then zt else if z = zq then zq - 1 else z))

/-- R80, R81: while a module is forced the candidate is that module if it is LIVE, else none; otherwise it is the enabled,
LIVE and unbarred module with the least band distance, the lowest number among equals, or none where there is none. -/
def Obligations.CandidateIsNearest : Prop :=
  ∀ (s : State) (c : Controller),
    (∀ f, c.forced = some f → candidateOf s c = if s.trackers[f].deadline.isSome then some f else none)
    ∧ (c.forced = none →
      let fit := fun m : ModuleId =>
        s.trackers[m].record.enabled = true ∧ s.trackers[m].deadline.isSome = true ∧ c.mods[m].barred = false
      let distance := fun m : ModuleId =>
        if c.zq < c.mods[m].calibration.lo then c.mods[m].calibration.lo - c.zq
        else if c.mods[m].calibration.hi < c.zq then c.zq - c.mods[m].calibration.hi else 0
      (candidateOf s c = none ↔ ∀ m, ¬fit m)
      ∧ ∀ m, candidateOf s c = some m ↔
          fit m ∧ ∀ n, fit n → distance m < distance n ∨ (distance m = distance n ∧ m ≤ n))

/-- R101, R102: an advance in a fade. I lost: S stays, I is back at unity and HANDOFF_ABANDONED "stale" names it; else S
lost: the fade completes at once, "early". Otherwise the direction is kept, or turned by the zoom and the candidate, and
k moves by one step and sets alpha; at the fade length the fade completes: I becomes S, the former S is back at unity,
relaxation starts and HANDOFF_DONE "faded" names the new S; back at 0 the fade is "returned". R92 to R100, R103: an
advance in the other states. STARVED: S serves again, a cut, or no change. STEADY: a cut or STARVED where S is lost, the
begin of a preparation, or a relaxation step. PREPARING: a cut, an abandonment, STARVED, a withdrawal, a restart, or a
continuation: a fade by the result, the unrefined fallback at the limit, or an abandonment with I barred. That the
relaxation quotient is rounded as R103's worked figures show is log 12. -/
def Obligations.FadeStepTakes : Prop :=
  ∀ (a : Advance) (s : State), s.ctl.frozen = false →
    let c := (s.advance a).ctl
    let events := (s.advance a).agent.events
    let lost := fun m : ModuleId => s.trackers[m].deadline = none ∨ s.ctl.mods[m].resetMark = true
    let raised := fun (kind : Fin 16) (m : ModuleId) (reason : Nat) =>
      events[kind].flag = true ∧ events[kind].detail =
        { subject := m.val, second := a.view.val, frame := a.frame, time := timeLow s.time, reason := reason }
    let quiet := ∀ kind : Fin 16, kind = 0 ∨ kind = 1 ∨ kind = 2 ∨ kind = 5 → events[kind] = s.agent.events[kind]
    let same := fun m : ModuleId => c.mods[m].gain = s.ctl.mods[m].gain ∧ c.mods[m].rx = s.ctl.mods[m].rx
      ∧ c.mods[m].ry = s.ctl.mods[m].ry
    let unity := fun m : ModuleId => c.mods[m].gain = 16384 ∧ c.mods[m].rx = 0 ∧ c.mods[m].ry = 0
    let noRects := ∀ m : ModuleId, c.mods[m].rect = none
    let steady := fun m : ModuleId => c.phase = .steady m ∧ c.alpha = 0 ∧ c.k = 0 ∧ c.direction = .forward
      ∧ c.unrefined = false ∧ noRects
    let takesOver := fun (m : ModuleId) (gain : Nat) (rx ry : Int) =>
      c.mods[m].gain = (if c.params.relax = 0 then 16384 else gain) ∧ c.mods[m].relaxStart = gain
        ∧ c.mods[m].relaxStep = 0 ∧ c.mods[m].rx = rx ∧ c.mods[m].ry = ry ∧ c.mods[m].barred = false
    let keeps := fun m : ModuleId => takesOver m s.ctl.mods[m].gain s.ctl.mods[m].rx s.ctl.mods[m].ry
    let cutTo := fun (former : Option ModuleId) (m : ModuleId) =>
      steady m ∧ keeps m ∧ raised 0 m 0 ∧ ∀ f, former = some f → f ≠ m → unity f
    let inBand := fun m : ModuleId => c.mods[m].calibration.lo ≤ c.zq ∧ c.zq ≤ c.mods[m].calibration.hi
    let rect := fun (m : ModuleId) (rx ry : Int) =>
      let w := s.comp.views[a.view]
      let q := c.mods[m].calibration
      let parallaxOf := fun d : ParallaxEntry → Int =>
        s.store.mods[m].newestRecord.elim 0 fun f => parallax d q.parallax f.focus
      let width := max 64 ((2 * (c.field.width * q.scale) + c.zq) / (2 * c.zq))
      let height := max 64 ((2 * (width * w.height) + w.width) / (2 * w.width))
      Rect.mk (s.ctl.generation + 1) ((q.cx + 4096 * parallaxOf (·.dx) + rx - 32768 * width + 32768) / 65536)
        ((q.cy + 4096 * parallaxOf (·.dy) + ry - 32768 * height + 32768) / 65536) width height
    let begins := fun sm im : ModuleId =>
      c.phase = .preparing sm im ∧ c.generation = s.ctl.generation + 1 ∧ c.prepareCounter = 0 ∧ quiet
      ∧ c.mods[im].rx = 0 ∧ c.mods[im].ry = 0 ∧ (∀ m : ModuleId, c.mods[m].gain = s.ctl.mods[m].gain)
      ∧ c.mods[sm].rect = some (rect sm s.ctl.mods[sm].rx s.ctl.mods[sm].ry) ∧ c.mods[im].rect = some (rect im 0 0)
      ∧ ∀ m : ModuleId, m ≠ sm → m ≠ im → c.mods[m].rect = none
    let starves := fun sm : ModuleId => c.phase = .starved (some sm) ∧ c.alpha = 0 ∧ noRects ∧ raised 5 sm 0
    (∀ sm im, s.ctl.phase = .fading sm im → sm ≠ im →
      let forward := s.ctl.direction = .forward ∧ ¬(inBand sm ∧ c.candidate = some sm)
        ∨ s.ctl.direction = .returning ∧ ¬inBand sm ∧ c.candidate = some im
      let n := s.ctl.fadeInUse
      let stepped := fun (d : Direction) (k : Nat) => c.phase = .fading sm im ∧ c.direction = d ∧ c.k = k
        ∧ c.alpha = (512 * k + n) / (2 * n) ∧ c.unrefined = s.ctl.unrefined ∧ quiet ∧ ∀ m : ModuleId, same m
      (lost im → steady sm ∧ unity im ∧ same sm ∧ raised 1 im 0)
      ∧ (¬lost im → lost sm → steady im ∧ unity sm ∧ keeps im ∧ raised 0 im 2)
      ∧ (¬lost im → ¬lost sm → forward →
        (s.ctl.k + 1 < n → stepped .forward (s.ctl.k + 1))
        ∧ (n ≤ s.ctl.k + 1 → steady im ∧ unity sm ∧ keeps im ∧ raised 0 im 1))
      ∧ (¬lost im → ¬lost sm → ¬forward →
        (1 < s.ctl.k → stepped .returning (s.ctl.k - 1))
        ∧ (s.ctl.k ≤ 1 → steady sm ∧ unity im ∧ same sm ∧ raised 1 im 2)))
    ∧ (∀ x, s.ctl.phase = .starved x →
      (∀ m, x = some m → ¬lost m → c.phase = .steady m ∧ quiet ∧ ∀ m : ModuleId, same m)
      ∧ ((∀ m, x = some m → lost m) →
        (∀ m, c.candidate = some m → cutTo x m)
        ∧ (c.candidate = none → c.phase = .starved x ∧ quiet ∧ ∀ m : ModuleId, same m)))
    ∧ (∀ sm, s.ctl.phase = .steady sm →
      let due := fun m => m ≠ sm ∧ c.candidate = some m
        ∧ (c.mods[sm].calibration.hi + c.params.hysteresis < c.zq ∨ c.zq < c.mods[sm].calibration.lo
          ∨ c.forced = some m)
      let start : Int := s.ctl.mods[sm].relaxStart
      let step := s.ctl.mods[sm].relaxStep + 1
      (lost sm → (∀ m, c.candidate = some m → cutTo (some sm) m) ∧ (c.candidate = none → starves sm))
      ∧ (¬lost sm → ∀ m, due m → begins sm m)
      ∧ (¬lost sm → (∀ m, ¬due m) → c.phase = .steady sm ∧ quiet
        ∧ (∀ m : ModuleId, m ≠ sm → same m)
        ∧ (s.ctl.mods[sm].gain = 16384 → same sm ∧ c.mods[sm].relaxStep = s.ctl.mods[sm].relaxStep)
        ∧ (s.ctl.mods[sm].gain ≠ 16384 → c.params.relax = 0 ∨ c.params.relax ≤ step →
            c.mods[sm].gain = 16384 ∧ c.mods[sm].relaxStep = c.params.relax)
        ∧ (s.ctl.mods[sm].gain ≠ 16384 → c.params.relax ≠ 0 → step < c.params.relax →
            c.mods[sm].relaxStep = step
            ∧ c.mods[sm].gain = (start + roundHalfAway ((16384 - start) * step) c.params.relax).toNat)))
    ∧ ∀ sm im, s.ctl.phase = .preparing sm im → sm ≠ im →
      let result := fun r : RegResult => s.reg.last = some r ∧ r.outcome.failure = none ∧ r.generation = s.ctl.generation
      let fades := fun (ratio : Nat) (rx ry : Int) (unrefined : Bool) =>
        let gain := max 4096 (min 65535 ((2 * (s.ctl.mods[sm].gain * ratio) + 16384) / (2 * 16384)))
        (1 < c.params.fade → c.phase = .fading sm im ∧ c.direction = .forward ∧ c.k = 1
          ∧ c.fadeInUse = c.params.fade ∧ c.alpha = (512 + c.params.fade) / (2 * c.params.fade)
          ∧ c.unrefined = unrefined ∧ c.generation = s.ctl.generation ∧ noRects ∧ same sm
          ∧ c.mods[im].gain = gain ∧ c.mods[im].rx = rx ∧ c.mods[im].ry = ry)
        ∧ (c.params.fade ≤ 1 → steady im ∧ unity sm ∧ takesOver im gain rx ry ∧ raised 0 im 1)
      (lost sm → ¬lost im → cutTo (some sm) im)
      ∧ (lost sm → lost im → raised 1 im 0 ∧ (∀ m, c.candidate = some m → cutTo (some sm) m)
          ∧ (c.candidate = none → starves sm))
      ∧ (¬lost sm → lost im → steady sm ∧ raised 1 im 0 ∧ ∀ m : ModuleId, same m)
      ∧ (¬lost sm → ¬lost im → c.candidate = none ∨ c.candidate = some sm →
          steady sm ∧ quiet ∧ ∀ m : ModuleId, same m)
      ∧ (¬lost sm → ¬lost im → ∀ m, c.candidate = some m → m ≠ sm → m ≠ im → begins sm m)
      ∧ (¬lost sm → ¬lost im → c.candidate = some im →
        (∀ r h v rx ry, result r → r.outcome = .success h v rx ry → fades r.gRel rx ry false)
        ∧ ((∀ r, ¬result r) →
          (s.ctl.prepareCounter + 1 < c.params.prepare →
            c.phase = .preparing sm im ∧ c.prepareCounter = s.ctl.prepareCounter + 1
            ∧ c.generation = s.ctl.generation ∧ quiet ∧ ∀ m : ModuleId, same m ∧ c.mods[m].rect = s.ctl.mods[m].rect)
          ∧ (c.params.prepare ≤ s.ctl.prepareCounter + 1 →
            (∀ fi, s.store.mods[im].newestRecord = some fi →
              let ratio := s.store.mods[sm].newestRecord.elim 16384 fun fs =>
                max 4096 (min 65535 ((2 * (16384 * fs.duration * fs.gain) + fi.duration * fi.gain)
                  / (2 * (fi.duration * fi.gain))))
              fades ratio 0 0 true ∧ raised 2 im 0)
            ∧ (s.store.mods[im].newestRecord = none → steady sm ∧ raised 1 im 1 ∧ c.mods[im].barred = true
                ∧ ∀ m : ModuleId, same m))))

/-- R63, R75 to R79, R81, R86, R87, R105, R106: an advance that is not frozen takes every pending copy, request and force
change, publishes what it leaves, item by item (R88), and writes a snapshot; a frozen one changes nothing. A zoom request becomes target and
rate; target and zoom are clamped to the limits then in use, with ZOOM_CLAMPED where that changes one; the zoom takes
one step toward the target, and a ramp that arrives closes with RAMP_DONE. R86: every event an advance raises carries the
pacing view and the output frame number; that the detail of ZOOM_CLAMPED holds them beside the five items of R164 is the
model's choice (log 31). -/
def Obligations.AdvanceTakesPendings : Prop :=
  ∀ (a : Advance) (s : State),
    (s.ctl.frozen = true → s.advance a = s)
    ∧ (s.ctl.frozen = false →
      let c := (s.advance a).ctl
      c.pendingField = none ∧ c.pendingParams = none ∧ c.pendingZoom = none ∧ c.pendingForce = none
      ∧ (∀ m : ModuleId, c.mods[m].pendingCalibration = none
          ∧ c.mods[m].calibration = s.ctl.mods[m].pendingCalibration.getD s.ctl.mods[m].calibration
          ∧ c.mods[m].resetMark = false)
      ∧ c.field = s.ctl.pendingField.getD s.ctl.field ∧ c.params = s.ctl.pendingParams.getD s.ctl.params
      ∧ (∀ m, s.ctl.pendingForce = some (.force m) → c.forced = some m)
      ∧ (s.ctl.pendingForce = some .release → c.forced = none)
      ∧ (s.ctl.pendingForce = none → c.forced = s.ctl.forced)
      ∧ (c.rampOpen = true → c.zq ≠ c.zt)
      ∧ (let limited := fun z : Nat => if z < c.field.zmin then c.field.zmin else if c.field.zmax < z then c.field.zmax else z
        let target := s.ctl.pendingZoom.elim s.ctl.zt (·.target)
        let ramp := s.ctl.pendingZoom.isSome = true ∨ s.ctl.rampOpen = true
        let events := (s.advance a).agent.events
        c.zt = limited target ∧ c.rate = s.ctl.pendingZoom.elim s.ctl.rate (·.rate)
        ∧ c.zq = zoomStep (limited s.ctl.zq) c.zt c.rate
        ∧ (c.rampOpen = true ↔ ramp ∧ c.zq ≠ c.zt)
        ∧ (target ≠ limited target ∨ s.ctl.zq ≠ limited s.ctl.zq →
          events[15].flag = true ∧ events[15].detail =
            { subject := 0, second := 0, frame := word (limited s.ctl.zq), time := timeLow s.time, reason := 1
              advance := some a })
        ∧ (target = limited target → s.ctl.zq = limited s.ctl.zq → events[15] = s.agent.events[15])
        ∧ (ramp → c.zq = c.zt → events[13].flag = true ∧ events[13].detail =
            { subject := a.view.val, second := 0, frame := a.frame, time := timeLow s.time, reason := 0 })
        ∧ (¬(ramp ∧ c.zq = c.zt) → events[13] = s.agent.events[13])
        ∧ ∀ n : Fin 16, events[n] = s.agent.events[n] ∨ events[n].flag = true
          ∧ if n = 15 then events[n].detail.advance = some a
            else events[n].detail.frame = a.frame
              ∧ (if n = 13 then events[n].detail.subject else events[n].detail.second) = a.view.val)
      ∧ c.published.phase = c.phase ∧ c.published.alpha = c.alpha ∧ c.published.direction = c.direction
      ∧ c.published.unrefined = c.unrefined ∧ c.published.frozen = false ∧ c.frozen = false
      ∧ c.published.zq = c.zq ∧ c.published.field = c.field
      ∧ (∀ m : ModuleId, c.published.mods[m].gain = c.mods[m].gain ∧ c.published.mods[m].rx = c.mods[m].rx
          ∧ c.published.mods[m].ry = c.mods[m].ry ∧ c.published.mods[m].calibration = c.mods[m].calibration)
      ∧ (s.advance a).agent.snapshotCount = s.agent.snapshotCount + 1
      ∧ (s.advance a).store = s.store ∧ (s.advance a).trackers = s.trackers ∧ (s.advance a).path = s.path
      ∧ (s.advance a).comp = s.comp ∧ (s.advance a).reg = s.reg)
end

