-- ==== Sys2Proof/Laws/Bytes.lean ====
section
/-! SUPPORT. The laws of little-endian fields: lengths, and that a field read back is the value written. -/

namespace Sys2Proof.Machine

@[simp] theorem length_leBytes (n v : Nat) : (leBytes n v).length = n := by
  induction n generalizing v with
  | zero => rfl
  | succ n ih => simp [leBytes, ih]

@[simp] theorem length_zeros (n : Nat) : (zeros n).length = n := by simp [zeros]

@[simp] theorem length_leSigned (n : Nat) (v : Int) : (leSigned n v).length = n := by simp [leSigned]

/-- The value of the bytes of a number is the number at that width. -/
theorem leNat_leBytes (n v : Nat) : leNat (leBytes n v) = v % 256 ^ n := by
  induction n generalizing v with
  | zero => simp [leBytes, leNat, Nat.mod_one]
  | succ n ih =>
    rw [leBytes, leNat, ih, BitVec.toNat_ofNat, pow_succ' 256 n, Nat.mod_mul]

/-- The field at the very start of a list of bytes. -/
theorem fieldAt_append_left (n v : Nat) (r : List Byte) : fieldAt (leBytes n v ++ r) 0 n = v % 256 ^ n := by
  simp [fieldAt, leNat_leBytes]

/-- A field past a stretch of bytes is the field of what follows it. -/
theorem fieldAt_append_right {l : List Byte} {k : Nat} (h : l.length = k) (r : List Byte) (off n : Nat) :
    fieldAt (l ++ r) (k + off) n = fieldAt r off n := by
  subst h
  simp [fieldAt, List.drop_append, List.drop_eq_nil_of_le]

@[simp] theorem length_statusBytes (q : Word) (k : Nat) (o : OutcomeCode) (d0 d1 d2 : Nat) :
    (statusBytes q k o d0 d1 d2).length = 64 := by simp [statusBytes]

@[simp] theorem length_eventBytes (e : EventState) : (eventBytes e).length = 16 := by simp [eventBytes]

@[simp] theorem length_moduleByte (m : Option ModuleId) : (moduleByte m).length = 1 := by simp [moduleByte]

@[simp] theorem length_slotByte (i : Option Nat) : (slotByte i).length = 1 := by simp [slotByte]

@[simp] theorem length_offsetBytes (o : Int) : (offsetBytes o).length = 4 := by unfold offsetBytes; split <;> simp

@[simp] theorem length_partBytes (p : Option Part) : (partBytes p).length = 24 := by
  unfold partBytes
  split
  · simp
  · split <;> simp

@[simp] theorem length_headerBytes (f : OutputFrame) : (headerBytes f).length = 64 := by simp [headerBytes]

@[simp] theorem length_headerPage (f : OutputFrame) (off len : Nat) : (headerPage f off len).length = len := by
  simp [headerPage]

@[simp] theorem length_dumpEntry (s : Slot) : (dumpEntry s).length = 32 := by
  unfold dumpEntry
  simp only [List.length_append, length_leBytes, length_zeros]

@[simp] theorem length_snapshotModule (b : Bool) (t : Tracker) (c : ModuleComp) : (snapshotModule b t c).length = 12 := by
  unfold snapshotModule
  split <;> simp

@[simp] theorem length_snapshotContext (c : Option RegContext) : (snapshotContext c).length = 8 := by
  cases c <;> simp [snapshotContext]

@[simp] theorem length_snapshotResult (r : Option RegResult) : (snapshotResult r).length = 28 := by
  cases r <;> simp [snapshotResult, normBytes]

/-- Four records of 12 bytes, one per module. -/
theorem length_perModule (f : ModuleId → List Byte) (h : ∀ m, (f m).length = 12) :
    (allModules.map f).flatten.length = 48 := by simp [allModules, h]

/-- The state snapshot is 128 bytes (R177). -/
@[simp] theorem length_snapshotBytes (g : Config) (n : Word) (k : SnapshotCause) (w : Nat) (t : Time)
    (ts : Vector Tracker 4) (c : Controller) (r : Registration) : (snapshotBytes g n k w t ts c r).length = 128 := by
  unfold snapshotBytes
  simp only [List.length_append, length_leBytes]
  rw [length_perModule _ fun m => length_snapshotModule _ _ _]
  simp only [length_moduleByte, length_snapshotContext, length_snapshotResult, List.length_singleton]

end Sys2Proof.Machine
end

