-- ==== Sys2Proof/Laws/State.lean ====
section
/-! SUPPORT. One lemma per field per update of State: what each update leaves as it was, and what it puts in the field it
changes where that is one expression. All by rfl, so that no proof unfolds a record update. -/

namespace Sys2Proof.Machine

variable (s : State)

/-! ### State.atTime -/

@[simp] theorem State.atTime_pending (t : Time) : (s.atTime t).pending = s.pending := rfl
@[simp] theorem State.atTime_cfg (t : Time) : (s.atTime t).cfg = s.cfg := rfl
@[simp] theorem State.atTime_time (t : Time) : (s.atTime t).time = t := rfl
@[simp] theorem State.atTime_serial (t : Time) : (s.atTime t).serial = s.serial := rfl
@[simp] theorem State.atTime_path (t : Time) : (s.atTime t).path = s.path := rfl
@[simp] theorem State.atTime_trackers (t : Time) : (s.atTime t).trackers = s.trackers := rfl
@[simp] theorem State.atTime_store (t : Time) : (s.atTime t).store = s.store := rfl
@[simp] theorem State.atTime_ctl (t : Time) : (s.atTime t).ctl = s.ctl := rfl
@[simp] theorem State.atTime_reg (t : Time) : (s.atTime t).reg = s.reg := rfl
@[simp] theorem State.atTime_comp (t : Time) : (s.atTime t).comp = s.comp := rfl
@[simp] theorem State.atTime_agent (t : Time) : (s.atTime t).agent = s.agent := rfl

/-! ### State.nextSerial -/

@[simp] theorem State.nextSerial_pending : (s.nextSerial).pending = s.pending := rfl
@[simp] theorem State.nextSerial_cfg : (s.nextSerial).cfg = s.cfg := rfl
@[simp] theorem State.nextSerial_time : (s.nextSerial).time = s.time := rfl
@[simp] theorem State.nextSerial_serial : (s.nextSerial).serial = s.serial + 1 := rfl
@[simp] theorem State.nextSerial_path : (s.nextSerial).path = s.path := rfl
@[simp] theorem State.nextSerial_trackers : (s.nextSerial).trackers = s.trackers := rfl
@[simp] theorem State.nextSerial_store : (s.nextSerial).store = s.store := rfl
@[simp] theorem State.nextSerial_ctl : (s.nextSerial).ctl = s.ctl := rfl
@[simp] theorem State.nextSerial_reg : (s.nextSerial).reg = s.reg := rfl
@[simp] theorem State.nextSerial_comp : (s.nextSerial).comp = s.comp := rfl
@[simp] theorem State.nextSerial_agent : (s.nextSerial).agent = s.agent := rfl

/-! ### State.raise -/

@[simp] theorem State.raise_pending (r : Raise) : (s.raise r).pending = s.pending := rfl
@[simp] theorem State.raise_cfg (r : Raise) : (s.raise r).cfg = s.cfg := rfl
@[simp] theorem State.raise_time (r : Raise) : (s.raise r).time = s.time := rfl
@[simp] theorem State.raise_serial (r : Raise) : (s.raise r).serial = s.serial := rfl
@[simp] theorem State.raise_path (r : Raise) : (s.raise r).path = s.path := rfl
@[simp] theorem State.raise_trackers (r : Raise) : (s.raise r).trackers = s.trackers := rfl
@[simp] theorem State.raise_store (r : Raise) : (s.raise r).store = s.store := rfl
@[simp] theorem State.raise_ctl (r : Raise) : (s.raise r).ctl = s.ctl := rfl
@[simp] theorem State.raise_reg (r : Raise) : (s.raise r).reg = s.reg := rfl
@[simp] theorem State.raise_comp (r : Raise) : (s.raise r).comp = s.comp := rfl
@[simp] theorem State.raise_agent (r : Raise) : (s.raise r).agent = s.agent.raise s.cfg s.time r := rfl

/-! ### State.writeStatus -/

@[simp] theorem State.writeStatus_pending (q : Word) (k : Nat) (r : Reply) : (s.writeStatus q k r).pending = s.pending := rfl
@[simp] theorem State.writeStatus_cfg (q : Word) (k : Nat) (r : Reply) : (s.writeStatus q k r).cfg = s.cfg := rfl
@[simp] theorem State.writeStatus_time (q : Word) (k : Nat) (r : Reply) : (s.writeStatus q k r).time = s.time := rfl
@[simp] theorem State.writeStatus_serial (q : Word) (k : Nat) (r : Reply) : (s.writeStatus q k r).serial = s.serial := rfl
@[simp] theorem State.writeStatus_path (q : Word) (k : Nat) (r : Reply) : (s.writeStatus q k r).path = s.path := rfl
@[simp] theorem State.writeStatus_trackers (q : Word) (k : Nat) (r : Reply) : (s.writeStatus q k r).trackers = s.trackers := rfl
@[simp] theorem State.writeStatus_store (q : Word) (k : Nat) (r : Reply) : (s.writeStatus q k r).store = s.store := rfl
@[simp] theorem State.writeStatus_ctl (q : Word) (k : Nat) (r : Reply) : (s.writeStatus q k r).ctl = s.ctl := rfl
@[simp] theorem State.writeStatus_reg (q : Word) (k : Nat) (r : Reply) : (s.writeStatus q k r).reg = s.reg := rfl
@[simp] theorem State.writeStatus_comp (q : Word) (k : Nat) (r : Reply) : (s.writeStatus q k r).comp = s.comp := rfl
@[simp] theorem State.writeStatus_agent (q : Word) (k : Nat) (r : Reply) : (s.writeStatus q k r).agent = s.agent.issue s.cfg statusOffset (statusBytes q k r.outcome r.d0 r.d1 r.d2) := rfl

/-! ### State.writeSnapshot -/

@[simp] theorem State.writeSnapshot_pending (c : SnapshotCause) : (s.writeSnapshot c).pending = s.pending := rfl
@[simp] theorem State.writeSnapshot_cfg (c : SnapshotCause) : (s.writeSnapshot c).cfg = s.cfg := rfl
@[simp] theorem State.writeSnapshot_time (c : SnapshotCause) : (s.writeSnapshot c).time = s.time := rfl
@[simp] theorem State.writeSnapshot_serial (c : SnapshotCause) : (s.writeSnapshot c).serial = s.serial := rfl
@[simp] theorem State.writeSnapshot_path (c : SnapshotCause) : (s.writeSnapshot c).path = s.path := rfl
@[simp] theorem State.writeSnapshot_trackers (c : SnapshotCause) : (s.writeSnapshot c).trackers = s.trackers := rfl
@[simp] theorem State.writeSnapshot_store (c : SnapshotCause) : (s.writeSnapshot c).store = s.store := rfl
@[simp] theorem State.writeSnapshot_ctl (c : SnapshotCause) : (s.writeSnapshot c).ctl = s.ctl := rfl
@[simp] theorem State.writeSnapshot_reg (c : SnapshotCause) : (s.writeSnapshot c).reg = s.reg := rfl
@[simp] theorem State.writeSnapshot_comp (c : SnapshotCause) : (s.writeSnapshot c).comp = s.comp := rfl

/-! ### State.enqueue -/

@[simp] theorem State.enqueue_pending (r : Byte) : (s.enqueue r).pending = s.pending := rfl
@[simp] theorem State.enqueue_cfg (r : Byte) : (s.enqueue r).cfg = s.cfg := rfl
@[simp] theorem State.enqueue_time (r : Byte) : (s.enqueue r).time = s.time := rfl
@[simp] theorem State.enqueue_serial (r : Byte) : (s.enqueue r).serial = s.serial + 1 := rfl
@[simp] theorem State.enqueue_trackers (r : Byte) : (s.enqueue r).trackers = s.trackers := rfl
@[simp] theorem State.enqueue_store (r : Byte) : (s.enqueue r).store = s.store := rfl
@[simp] theorem State.enqueue_ctl (r : Byte) : (s.enqueue r).ctl = s.ctl := rfl
@[simp] theorem State.enqueue_reg (r : Byte) : (s.enqueue r).reg = s.reg := rfl
@[simp] theorem State.enqueue_comp (r : Byte) : (s.enqueue r).comp = s.comp := rfl
@[simp] theorem State.enqueue_agent (r : Byte) : (s.enqueue r).agent = s.agent := rfl

/-! ### State.answer -/

@[simp] theorem State.answer_pending (p : Nat) (a : Answer) : (s.answer p a).pending = s.pending := rfl
@[simp] theorem State.answer_cfg (p : Nat) (a : Answer) : (s.answer p a).cfg = s.cfg := rfl
@[simp] theorem State.answer_time (p : Nat) (a : Answer) : (s.answer p a).time = s.time := rfl
@[simp] theorem State.answer_serial (p : Nat) (a : Answer) : (s.answer p a).serial = s.serial := rfl
@[simp] theorem State.answer_trackers (p : Nat) (a : Answer) : (s.answer p a).trackers = s.trackers := rfl
@[simp] theorem State.answer_store (p : Nat) (a : Answer) : (s.answer p a).store = s.store := rfl
@[simp] theorem State.answer_ctl (p : Nat) (a : Answer) : (s.answer p a).ctl = s.ctl := rfl
@[simp] theorem State.answer_reg (p : Nat) (a : Answer) : (s.answer p a).reg = s.reg := rfl
@[simp] theorem State.answer_comp (p : Nat) (a : Answer) : (s.answer p a).comp = s.comp := rfl
@[simp] theorem State.answer_agent (p : Nat) (a : Answer) : (s.answer p a).agent = s.agent := rfl

/-! ### State.forward -/

@[simp] theorem State.forward_pending (p d : Nat) (x : Transaction) : (s.forward p d x).pending = s.pending := rfl
@[simp] theorem State.forward_cfg (p d : Nat) (x : Transaction) : (s.forward p d x).cfg = s.cfg := rfl
@[simp] theorem State.forward_time (p d : Nat) (x : Transaction) : (s.forward p d x).time = s.time := rfl
@[simp] theorem State.forward_serial (p d : Nat) (x : Transaction) : (s.forward p d x).serial = s.serial := rfl
@[simp] theorem State.forward_trackers (p d : Nat) (x : Transaction) : (s.forward p d x).trackers = s.trackers := rfl
@[simp] theorem State.forward_store (p d : Nat) (x : Transaction) : (s.forward p d x).store = s.store := rfl
@[simp] theorem State.forward_ctl (p d : Nat) (x : Transaction) : (s.forward p d x).ctl = s.ctl := rfl
@[simp] theorem State.forward_reg (p d : Nat) (x : Transaction) : (s.forward p d x).reg = s.reg := rfl
@[simp] theorem State.forward_comp (p d : Nat) (x : Transaction) : (s.forward p d x).comp = s.comp := rfl
@[simp] theorem State.forward_agent (p d : Nat) (x : Transaction) : (s.forward p d x).agent = s.agent := rfl

/-! ### State.deliver -/

@[simp] theorem State.deliver_pending : (s.deliver).pending = s.pending := rfl
@[simp] theorem State.deliver_cfg : (s.deliver).cfg = s.cfg := rfl
@[simp] theorem State.deliver_time : (s.deliver).time = s.time := rfl
@[simp] theorem State.deliver_serial : (s.deliver).serial = s.serial := rfl
@[simp] theorem State.deliver_trackers : (s.deliver).trackers = s.trackers := rfl
@[simp] theorem State.deliver_store : (s.deliver).store = s.store := rfl
@[simp] theorem State.deliver_ctl : (s.deliver).ctl = s.ctl := rfl
@[simp] theorem State.deliver_reg : (s.deliver).reg = s.reg := rfl
@[simp] theorem State.deliver_comp : (s.deliver).comp = s.comp := rfl
@[simp] theorem State.deliver_agent : (s.deliver).agent = s.agent := rfl

/-! ### State.modSlots -/

@[simp] theorem State.modSlots_pending (m : ModuleId) (f : ModuleSlots → ModuleSlots) : (s.modSlots m f).pending = s.pending := rfl
@[simp] theorem State.modSlots_cfg (m : ModuleId) (f : ModuleSlots → ModuleSlots) : (s.modSlots m f).cfg = s.cfg := rfl
@[simp] theorem State.modSlots_time (m : ModuleId) (f : ModuleSlots → ModuleSlots) : (s.modSlots m f).time = s.time := rfl
@[simp] theorem State.modSlots_serial (m : ModuleId) (f : ModuleSlots → ModuleSlots) : (s.modSlots m f).serial = s.serial := rfl
@[simp] theorem State.modSlots_path (m : ModuleId) (f : ModuleSlots → ModuleSlots) : (s.modSlots m f).path = s.path := rfl
@[simp] theorem State.modSlots_trackers (m : ModuleId) (f : ModuleSlots → ModuleSlots) : (s.modSlots m f).trackers = s.trackers := rfl
@[simp] theorem State.modSlots_store (m : ModuleId) (f : ModuleSlots → ModuleSlots) : (s.modSlots m f).store = { s.store with mods := upd s.store.mods m f } := rfl
@[simp] theorem State.modSlots_ctl (m : ModuleId) (f : ModuleSlots → ModuleSlots) : (s.modSlots m f).ctl = s.ctl := rfl
@[simp] theorem State.modSlots_reg (m : ModuleId) (f : ModuleSlots → ModuleSlots) : (s.modSlots m f).reg = s.reg := rfl
@[simp] theorem State.modSlots_comp (m : ModuleId) (f : ModuleSlots → ModuleSlots) : (s.modSlots m f).comp = s.comp := rfl
@[simp] theorem State.modSlots_agent (m : ModuleId) (f : ModuleSlots → ModuleSlots) : (s.modSlots m f).agent = s.agent := rfl

/-! ### State.unholdAll -/

@[simp] theorem State.unholdAll_pending (x : Holder) : (s.unholdAll x).pending = s.pending := rfl
@[simp] theorem State.unholdAll_cfg (x : Holder) : (s.unholdAll x).cfg = s.cfg := rfl
@[simp] theorem State.unholdAll_time (x : Holder) : (s.unholdAll x).time = s.time := rfl
@[simp] theorem State.unholdAll_serial (x : Holder) : (s.unholdAll x).serial = s.serial := rfl
@[simp] theorem State.unholdAll_path (x : Holder) : (s.unholdAll x).path = s.path := rfl
@[simp] theorem State.unholdAll_trackers (x : Holder) : (s.unholdAll x).trackers = s.trackers := rfl
@[simp] theorem State.unholdAll_store (x : Holder) : (s.unholdAll x).store = { s.store with mods := mapAll (·.unhold x) s.store.mods } := rfl
@[simp] theorem State.unholdAll_ctl (x : Holder) : (s.unholdAll x).ctl = s.ctl := rfl
@[simp] theorem State.unholdAll_reg (x : Holder) : (s.unholdAll x).reg = s.reg := rfl
@[simp] theorem State.unholdAll_comp (x : Holder) : (s.unholdAll x).comp = s.comp := rfl
@[simp] theorem State.unholdAll_agent (x : Holder) : (s.unholdAll x).agent = s.agent := rfl

/-! ### State.modTracker -/

@[simp] theorem State.modTracker_pending (m : ModuleId) (f : Tracker → Tracker) : (s.modTracker m f).pending = s.pending := rfl
@[simp] theorem State.modTracker_cfg (m : ModuleId) (f : Tracker → Tracker) : (s.modTracker m f).cfg = s.cfg := rfl
@[simp] theorem State.modTracker_time (m : ModuleId) (f : Tracker → Tracker) : (s.modTracker m f).time = s.time := rfl
@[simp] theorem State.modTracker_serial (m : ModuleId) (f : Tracker → Tracker) : (s.modTracker m f).serial = s.serial := rfl
@[simp] theorem State.modTracker_path (m : ModuleId) (f : Tracker → Tracker) : (s.modTracker m f).path = s.path := rfl
@[simp] theorem State.modTracker_trackers (m : ModuleId) (f : Tracker → Tracker) : (s.modTracker m f).trackers = upd s.trackers m f := rfl
@[simp] theorem State.modTracker_store (m : ModuleId) (f : Tracker → Tracker) : (s.modTracker m f).store = s.store := rfl
@[simp] theorem State.modTracker_ctl (m : ModuleId) (f : Tracker → Tracker) : (s.modTracker m f).ctl = s.ctl := rfl
@[simp] theorem State.modTracker_reg (m : ModuleId) (f : Tracker → Tracker) : (s.modTracker m f).reg = s.reg := rfl
@[simp] theorem State.modTracker_comp (m : ModuleId) (f : Tracker → Tracker) : (s.modTracker m f).comp = s.comp := rfl
@[simp] theorem State.modTracker_agent (m : ModuleId) (f : Tracker → Tracker) : (s.modTracker m f).agent = s.agent := rfl

/-! ### State.modCtl -/

@[simp] theorem State.modCtl_pending (f : Controller → Controller) : (s.modCtl f).pending = s.pending := rfl
@[simp] theorem State.modCtl_cfg (f : Controller → Controller) : (s.modCtl f).cfg = s.cfg := rfl
@[simp] theorem State.modCtl_time (f : Controller → Controller) : (s.modCtl f).time = s.time := rfl
@[simp] theorem State.modCtl_serial (f : Controller → Controller) : (s.modCtl f).serial = s.serial := rfl
@[simp] theorem State.modCtl_path (f : Controller → Controller) : (s.modCtl f).path = s.path := rfl
@[simp] theorem State.modCtl_trackers (f : Controller → Controller) : (s.modCtl f).trackers = s.trackers := rfl
@[simp] theorem State.modCtl_store (f : Controller → Controller) : (s.modCtl f).store = s.store := rfl
@[simp] theorem State.modCtl_ctl (f : Controller → Controller) : (s.modCtl f).ctl = f s.ctl := rfl
@[simp] theorem State.modCtl_reg (f : Controller → Controller) : (s.modCtl f).reg = s.reg := rfl
@[simp] theorem State.modCtl_comp (f : Controller → Controller) : (s.modCtl f).comp = s.comp := rfl
@[simp] theorem State.modCtl_agent (f : Controller → Controller) : (s.modCtl f).agent = s.agent := rfl

/-! ### State.modView -/

@[simp] theorem State.modView_pending (v : ViewId) (f : View → View) : (s.modView v f).pending = s.pending := rfl
@[simp] theorem State.modView_cfg (v : ViewId) (f : View → View) : (s.modView v f).cfg = s.cfg := rfl
@[simp] theorem State.modView_time (v : ViewId) (f : View → View) : (s.modView v f).time = s.time := rfl
@[simp] theorem State.modView_serial (v : ViewId) (f : View → View) : (s.modView v f).serial = s.serial := rfl
@[simp] theorem State.modView_path (v : ViewId) (f : View → View) : (s.modView v f).path = s.path := rfl
@[simp] theorem State.modView_trackers (v : ViewId) (f : View → View) : (s.modView v f).trackers = s.trackers := rfl
@[simp] theorem State.modView_store (v : ViewId) (f : View → View) : (s.modView v f).store = s.store := rfl
@[simp] theorem State.modView_ctl (v : ViewId) (f : View → View) : (s.modView v f).ctl = s.ctl := rfl
@[simp] theorem State.modView_reg (v : ViewId) (f : View → View) : (s.modView v f).reg = s.reg := rfl
@[simp] theorem State.modView_comp (v : ViewId) (f : View → View) : (s.modView v f).comp = { s.comp with views := upd s.comp.views v f } := rfl
@[simp] theorem State.modView_agent (v : ViewId) (f : View → View) : (s.modView v f).agent = s.agent := rfl

/-! ### State.modEntry -/

@[simp] theorem State.modEntry_pending (e : EntryId) (f : TableEntry → TableEntry) : (s.modEntry e f).pending = s.pending := rfl
@[simp] theorem State.modEntry_cfg (e : EntryId) (f : TableEntry → TableEntry) : (s.modEntry e f).cfg = s.cfg := rfl
@[simp] theorem State.modEntry_time (e : EntryId) (f : TableEntry → TableEntry) : (s.modEntry e f).time = s.time := rfl
@[simp] theorem State.modEntry_serial (e : EntryId) (f : TableEntry → TableEntry) : (s.modEntry e f).serial = s.serial := rfl
@[simp] theorem State.modEntry_path (e : EntryId) (f : TableEntry → TableEntry) : (s.modEntry e f).path = s.path := rfl
@[simp] theorem State.modEntry_trackers (e : EntryId) (f : TableEntry → TableEntry) : (s.modEntry e f).trackers = s.trackers := rfl
@[simp] theorem State.modEntry_store (e : EntryId) (f : TableEntry → TableEntry) : (s.modEntry e f).store = s.store := rfl
@[simp] theorem State.modEntry_ctl (e : EntryId) (f : TableEntry → TableEntry) : (s.modEntry e f).ctl = s.ctl := rfl
@[simp] theorem State.modEntry_reg (e : EntryId) (f : TableEntry → TableEntry) : (s.modEntry e f).reg = s.reg := rfl
@[simp] theorem State.modEntry_comp (e : EntryId) (f : TableEntry → TableEntry) : (s.modEntry e f).comp = { s.comp with table := upd s.comp.table e f } := rfl
@[simp] theorem State.modEntry_agent (e : EntryId) (f : TableEntry → TableEntry) : (s.modEntry e f).agent = s.agent := rfl

/-! ### State.freeEntry -/

@[simp] theorem State.freeEntry_pending (e : EntryId) : (s.freeEntry e).pending = s.pending := rfl
@[simp] theorem State.freeEntry_cfg (e : EntryId) : (s.freeEntry e).cfg = s.cfg := rfl
@[simp] theorem State.freeEntry_time (e : EntryId) : (s.freeEntry e).time = s.time := rfl
@[simp] theorem State.freeEntry_serial (e : EntryId) : (s.freeEntry e).serial = s.serial := rfl
@[simp] theorem State.freeEntry_path (e : EntryId) : (s.freeEntry e).path = s.path := rfl
@[simp] theorem State.freeEntry_trackers (e : EntryId) : (s.freeEntry e).trackers = s.trackers := rfl
@[simp] theorem State.freeEntry_store (e : EntryId) : (s.freeEntry e).store = s.store := rfl
@[simp] theorem State.freeEntry_ctl (e : EntryId) : (s.freeEntry e).ctl = s.ctl := rfl
@[simp] theorem State.freeEntry_reg (e : EntryId) : (s.freeEntry e).reg = s.reg := rfl
@[simp] theorem State.freeEntry_agent (e : EntryId) : (s.freeEntry e).agent = s.agent := rfl

/-! ### State.takeTag -/

@[simp] theorem State.takeTag_pending (e : EntryId) : (s.takeTag e).pending = s.pending := rfl
@[simp] theorem State.takeTag_cfg (e : EntryId) : (s.takeTag e).cfg = s.cfg := rfl
@[simp] theorem State.takeTag_time (e : EntryId) : (s.takeTag e).time = s.time := rfl
@[simp] theorem State.takeTag_serial (e : EntryId) : (s.takeTag e).serial = s.serial := rfl
@[simp] theorem State.takeTag_path (e : EntryId) : (s.takeTag e).path = s.path := rfl
@[simp] theorem State.takeTag_trackers (e : EntryId) : (s.takeTag e).trackers = s.trackers := rfl
@[simp] theorem State.takeTag_store (e : EntryId) : (s.takeTag e).store = s.store := rfl
@[simp] theorem State.takeTag_ctl (e : EntryId) : (s.takeTag e).ctl = s.ctl := rfl
@[simp] theorem State.takeTag_reg (e : EntryId) : (s.takeTag e).reg = s.reg := rfl
@[simp] theorem State.takeTag_agent (e : EntryId) : (s.takeTag e).agent = s.agent := rfl

/-! ### State.putRead -/

@[simp] theorem State.putRead_pending (e : EntryId) (r : ReadEntry) : (s.putRead e r).pending = s.pending := rfl
@[simp] theorem State.putRead_cfg (e : EntryId) (r : ReadEntry) : (s.putRead e r).cfg = s.cfg := rfl
@[simp] theorem State.putRead_time (e : EntryId) (r : ReadEntry) : (s.putRead e r).time = s.time := rfl
@[simp] theorem State.putRead_serial (e : EntryId) (r : ReadEntry) : (s.putRead e r).serial = s.serial := rfl
@[simp] theorem State.putRead_path (e : EntryId) (r : ReadEntry) : (s.putRead e r).path = s.path := rfl
@[simp] theorem State.putRead_trackers (e : EntryId) (r : ReadEntry) : (s.putRead e r).trackers = s.trackers := rfl
@[simp] theorem State.putRead_store (e : EntryId) (r : ReadEntry) : (s.putRead e r).store = s.store := rfl
@[simp] theorem State.putRead_ctl (e : EntryId) (r : ReadEntry) : (s.putRead e r).ctl = s.ctl := rfl
@[simp] theorem State.putRead_reg (e : EntryId) (r : ReadEntry) : (s.putRead e r).reg = s.reg := rfl
@[simp] theorem State.putRead_agent (e : EntryId) (r : ReadEntry) : (s.putRead e r).agent = s.agent := rfl

/-! ### State.addDump -/

@[simp] theorem State.addDump_pending (ws : List OwnWrite) : (s.addDump ws).pending = s.pending := rfl
@[simp] theorem State.addDump_cfg (ws : List OwnWrite) : (s.addDump ws).cfg = s.cfg := rfl
@[simp] theorem State.addDump_time (ws : List OwnWrite) : (s.addDump ws).time = s.time := rfl
@[simp] theorem State.addDump_serial (ws : List OwnWrite) : (s.addDump ws).serial = s.serial := rfl
@[simp] theorem State.addDump_path (ws : List OwnWrite) : (s.addDump ws).path = s.path := rfl
@[simp] theorem State.addDump_trackers (ws : List OwnWrite) : (s.addDump ws).trackers = s.trackers := rfl
@[simp] theorem State.addDump_store (ws : List OwnWrite) : (s.addDump ws).store = s.store := rfl
@[simp] theorem State.addDump_ctl (ws : List OwnWrite) : (s.addDump ws).ctl = s.ctl := rfl
@[simp] theorem State.addDump_reg (ws : List OwnWrite) : (s.addDump ws).reg = s.reg := rfl
@[simp] theorem State.addDump_comp (ws : List OwnWrite) : (s.addDump ws).comp = s.comp := rfl
@[simp] theorem State.addDump_agent (ws : List OwnWrite) : (s.addDump ws).agent = { s.agent with dumpWrites := s.agent.dumpWrites ++ ws } := rfl

/-! ### State.emptySlots -/

@[simp] theorem State.emptySlots_pending (m : ModuleId) : (s.emptySlots m).pending = s.pending := rfl
@[simp] theorem State.emptySlots_cfg (m : ModuleId) : (s.emptySlots m).cfg = s.cfg := rfl
@[simp] theorem State.emptySlots_time (m : ModuleId) : (s.emptySlots m).time = s.time := rfl
@[simp] theorem State.emptySlots_serial (m : ModuleId) : (s.emptySlots m).serial = s.serial := rfl
@[simp] theorem State.emptySlots_path (m : ModuleId) : (s.emptySlots m).path = s.path := rfl
@[simp] theorem State.emptySlots_trackers (m : ModuleId) : (s.emptySlots m).trackers = s.trackers := rfl
@[simp] theorem State.emptySlots_ctl (m : ModuleId) : (s.emptySlots m).ctl = s.ctl := rfl
@[simp] theorem State.emptySlots_reg (m : ModuleId) : (s.emptySlots m).reg = s.reg := rfl
@[simp] theorem State.emptySlots_comp (m : ModuleId) : (s.emptySlots m).comp = s.comp := rfl
@[simp] theorem State.emptySlots_agent (m : ModuleId) : (s.emptySlots m).agent = s.agent := rfl

/-! ### State.setIdle -/

@[simp] theorem State.setIdle_pending (m : ModuleId) : (s.setIdle m).pending = s.pending := rfl
@[simp] theorem State.setIdle_cfg (m : ModuleId) : (s.setIdle m).cfg = s.cfg := rfl
@[simp] theorem State.setIdle_time (m : ModuleId) : (s.setIdle m).time = s.time := rfl
@[simp] theorem State.setIdle_serial (m : ModuleId) : (s.setIdle m).serial = s.serial := rfl
@[simp] theorem State.setIdle_path (m : ModuleId) : (s.setIdle m).path = s.path := rfl
@[simp] theorem State.setIdle_store (m : ModuleId) : (s.setIdle m).store = s.store := rfl
@[simp] theorem State.setIdle_ctl (m : ModuleId) : (s.setIdle m).ctl = s.ctl := rfl
@[simp] theorem State.setIdle_reg (m : ModuleId) : (s.setIdle m).reg = s.reg := rfl
@[simp] theorem State.setIdle_comp (m : ModuleId) : (s.setIdle m).comp = s.comp := rfl
@[simp] theorem State.setIdle_agent (m : ModuleId) : (s.setIdle m).agent = s.agent := rfl

/-! ### State.trailerBad -/

@[simp] theorem State.trailerBad_pending (m : ModuleId) (n : Word) (r : Nat) : (s.trailerBad m n r).pending = s.pending := rfl
@[simp] theorem State.trailerBad_cfg (m : ModuleId) (n : Word) (r : Nat) : (s.trailerBad m n r).cfg = s.cfg := rfl
@[simp] theorem State.trailerBad_time (m : ModuleId) (n : Word) (r : Nat) : (s.trailerBad m n r).time = s.time := rfl
@[simp] theorem State.trailerBad_serial (m : ModuleId) (n : Word) (r : Nat) : (s.trailerBad m n r).serial = s.serial := rfl
@[simp] theorem State.trailerBad_path (m : ModuleId) (n : Word) (r : Nat) : (s.trailerBad m n r).path = s.path := rfl
@[simp] theorem State.trailerBad_trackers (m : ModuleId) (n : Word) (r : Nat) : (s.trailerBad m n r).trackers = s.trackers := rfl
@[simp] theorem State.trailerBad_store (m : ModuleId) (n : Word) (r : Nat) : (s.trailerBad m n r).store = s.store := rfl
@[simp] theorem State.trailerBad_ctl (m : ModuleId) (n : Word) (r : Nat) : (s.trailerBad m n r).ctl = s.ctl := rfl
@[simp] theorem State.trailerBad_reg (m : ModuleId) (n : Word) (r : Nat) : (s.trailerBad m n r).reg = s.reg := rfl
@[simp] theorem State.trailerBad_comp (m : ModuleId) (n : Word) (r : Nat) : (s.trailerBad m n r).comp = s.comp := rfl

/-! ### State.closeSlot -/

@[simp] theorem State.closeSlot_pending (m : ModuleId) (i : Nat) (a : Option Profile) (t : Trailer) : (s.closeSlot m i a t).pending = s.pending := rfl
@[simp] theorem State.closeSlot_cfg (m : ModuleId) (i : Nat) (a : Option Profile) (t : Trailer) : (s.closeSlot m i a t).cfg = s.cfg := rfl
@[simp] theorem State.closeSlot_time (m : ModuleId) (i : Nat) (a : Option Profile) (t : Trailer) : (s.closeSlot m i a t).time = s.time := rfl
@[simp] theorem State.closeSlot_serial (m : ModuleId) (i : Nat) (a : Option Profile) (t : Trailer) : (s.closeSlot m i a t).serial = s.serial := rfl
@[simp] theorem State.closeSlot_path (m : ModuleId) (i : Nat) (a : Option Profile) (t : Trailer) : (s.closeSlot m i a t).path = s.path := rfl
@[simp] theorem State.closeSlot_trackers (m : ModuleId) (i : Nat) (a : Option Profile) (t : Trailer) : (s.closeSlot m i a t).trackers = s.trackers := rfl
@[simp] theorem State.closeSlot_ctl (m : ModuleId) (i : Nat) (a : Option Profile) (t : Trailer) : (s.closeSlot m i a t).ctl = s.ctl := rfl
@[simp] theorem State.closeSlot_reg (m : ModuleId) (i : Nat) (a : Option Profile) (t : Trailer) : (s.closeSlot m i a t).reg = s.reg := rfl
@[simp] theorem State.closeSlot_comp (m : ModuleId) (i : Nat) (a : Option Profile) (t : Trailer) : (s.closeSlot m i a t).comp = s.comp := rfl
@[simp] theorem State.closeSlot_agent (m : ModuleId) (i : Nat) (a : Option Profile) (t : Trailer) : (s.closeSlot m i a t).agent = s.agent := rfl

/-! ### State.refuseWrite -/

@[simp] theorem State.refuseWrite_pending (p u : Nat) (r : Byte) (k : Nat) : (s.refuseWrite p u r k).pending = s.pending := rfl
@[simp] theorem State.refuseWrite_cfg (p u : Nat) (r : Byte) (k : Nat) : (s.refuseWrite p u r k).cfg = s.cfg := rfl
@[simp] theorem State.refuseWrite_time (p u : Nat) (r : Byte) (k : Nat) : (s.refuseWrite p u r k).time = s.time := rfl
@[simp] theorem State.refuseWrite_serial (p u : Nat) (r : Byte) (k : Nat) : (s.refuseWrite p u r k).serial = s.serial := rfl
@[simp] theorem State.refuseWrite_trackers (p u : Nat) (r : Byte) (k : Nat) : (s.refuseWrite p u r k).trackers = s.trackers := rfl
@[simp] theorem State.refuseWrite_store (p u : Nat) (r : Byte) (k : Nat) : (s.refuseWrite p u r k).store = s.store := rfl
@[simp] theorem State.refuseWrite_ctl (p u : Nat) (r : Byte) (k : Nat) : (s.refuseWrite p u r k).ctl = s.ctl := rfl
@[simp] theorem State.refuseWrite_reg (p u : Nat) (r : Byte) (k : Nat) : (s.refuseWrite p u r k).reg = s.reg := rfl
@[simp] theorem State.refuseWrite_comp (p u : Nat) (r : Byte) (k : Nat) : (s.refuseWrite p u r k).comp = s.comp := rfl

/-! ### State.closeFrame -/

@[simp] theorem State.closeFrame_pending (v : ViewId) (f : FrameName) : (s.closeFrame v f).pending = s.pending := rfl
@[simp] theorem State.closeFrame_cfg (v : ViewId) (f : FrameName) : (s.closeFrame v f).cfg = s.cfg := rfl
@[simp] theorem State.closeFrame_time (v : ViewId) (f : FrameName) : (s.closeFrame v f).time = s.time := rfl
@[simp] theorem State.closeFrame_serial (v : ViewId) (f : FrameName) : (s.closeFrame v f).serial = s.serial := rfl
@[simp] theorem State.closeFrame_path (v : ViewId) (f : FrameName) : (s.closeFrame v f).path = s.path := rfl
@[simp] theorem State.closeFrame_trackers (v : ViewId) (f : FrameName) : (s.closeFrame v f).trackers = s.trackers := rfl
@[simp] theorem State.closeFrame_ctl (v : ViewId) (f : FrameName) : (s.closeFrame v f).ctl = s.ctl := rfl
@[simp] theorem State.closeFrame_reg (v : ViewId) (f : FrameName) : (s.closeFrame v f).reg = s.reg := rfl
@[simp] theorem State.closeFrame_agent (v : ViewId) (f : FrameName) : (s.closeFrame v f).agent = s.agent := rfl

/-! ### State.returnFill -/

@[simp] theorem State.returnFill_pending (m : ModuleId) : (s.returnFill m).pending = s.pending := rfl
@[simp] theorem State.returnFill_cfg (m : ModuleId) : (s.returnFill m).cfg = s.cfg := rfl
@[simp] theorem State.returnFill_time (m : ModuleId) : (s.returnFill m).time = s.time := rfl
@[simp] theorem State.returnFill_serial (m : ModuleId) : (s.returnFill m).serial = s.serial := rfl
@[simp] theorem State.returnFill_path (m : ModuleId) : (s.returnFill m).path = s.path := rfl
@[simp] theorem State.returnFill_trackers (m : ModuleId) : (s.returnFill m).trackers = s.trackers := rfl
@[simp] theorem State.returnFill_ctl (m : ModuleId) : (s.returnFill m).ctl = s.ctl := rfl
@[simp] theorem State.returnFill_reg (m : ModuleId) : (s.returnFill m).reg = s.reg := rfl
@[simp] theorem State.returnFill_comp (m : ModuleId) : (s.returnFill m).comp = s.comp := rfl
@[simp] theorem State.returnFill_agent (m : ModuleId) : (s.returnFill m).agent = s.agent := rfl

/-! ### State.freezeModule -/

@[simp] theorem State.freezeModule_pending (m : ModuleId) : (s.freezeModule m).pending = s.pending := rfl
@[simp] theorem State.freezeModule_cfg (m : ModuleId) : (s.freezeModule m).cfg = s.cfg := rfl
@[simp] theorem State.freezeModule_time (m : ModuleId) : (s.freezeModule m).time = s.time := rfl
@[simp] theorem State.freezeModule_serial (m : ModuleId) : (s.freezeModule m).serial = s.serial := rfl
@[simp] theorem State.freezeModule_path (m : ModuleId) : (s.freezeModule m).path = s.path := rfl
@[simp] theorem State.freezeModule_trackers (m : ModuleId) : (s.freezeModule m).trackers = s.trackers := rfl
@[simp] theorem State.freezeModule_ctl (m : ModuleId) : (s.freezeModule m).ctl = s.ctl := rfl
@[simp] theorem State.freezeModule_reg (m : ModuleId) : (s.freezeModule m).reg = s.reg := rfl
@[simp] theorem State.freezeModule_comp (m : ModuleId) : (s.freezeModule m).comp = s.comp := rfl
@[simp] theorem State.freezeModule_agent (m : ModuleId) : (s.freezeModule m).agent = s.agent := rfl

/-! ### State.abortInFlight -/

@[simp] theorem State.abortInFlight_pending : (s.abortInFlight).pending = s.pending := rfl
@[simp] theorem State.abortInFlight_cfg : (s.abortInFlight).cfg = s.cfg := rfl
@[simp] theorem State.abortInFlight_time : (s.abortInFlight).time = s.time := rfl
@[simp] theorem State.abortInFlight_serial : (s.abortInFlight).serial = s.serial := rfl
@[simp] theorem State.abortInFlight_path : (s.abortInFlight).path = s.path := rfl
@[simp] theorem State.abortInFlight_trackers : (s.abortInFlight).trackers = s.trackers := rfl
@[simp] theorem State.abortInFlight_store : (s.abortInFlight).store = s.store := rfl
@[simp] theorem State.abortInFlight_ctl : (s.abortInFlight).ctl = s.ctl := rfl
@[simp] theorem State.abortInFlight_reg : (s.abortInFlight).reg = s.reg := rfl
@[simp] theorem State.abortInFlight_comp : (s.abortInFlight).comp = s.comp := rfl

/-! ### State.failReads -/

@[simp] theorem State.failReads_pending : (s.failReads).pending = s.pending := rfl
@[simp] theorem State.failReads_cfg : (s.failReads).cfg = s.cfg := rfl
@[simp] theorem State.failReads_time : (s.failReads).time = s.time := rfl
@[simp] theorem State.failReads_serial : (s.failReads).serial = s.serial := rfl
@[simp] theorem State.failReads_trackers : (s.failReads).trackers = s.trackers := rfl
@[simp] theorem State.failReads_store : (s.failReads).store = s.store := rfl
@[simp] theorem State.failReads_ctl : (s.failReads).ctl = s.ctl := rfl
@[simp] theorem State.failReads_reg : (s.failReads).reg = s.reg := rfl
@[simp] theorem State.failReads_comp : (s.failReads).comp = s.comp := rfl
@[simp] theorem State.failReads_agent : (s.failReads).agent = s.agent := rfl

/-! ### State.keepProgress -/

@[simp] theorem State.keepProgress_pending (f : InFlight) (p : Progress) : (s.keepProgress f p).pending = s.pending := rfl
@[simp] theorem State.keepProgress_cfg (f : InFlight) (p : Progress) : (s.keepProgress f p).cfg = s.cfg := rfl
@[simp] theorem State.keepProgress_time (f : InFlight) (p : Progress) : (s.keepProgress f p).time = s.time := rfl
@[simp] theorem State.keepProgress_serial (f : InFlight) (p : Progress) : (s.keepProgress f p).serial = s.serial := rfl
@[simp] theorem State.keepProgress_path (f : InFlight) (p : Progress) : (s.keepProgress f p).path = s.path := rfl
@[simp] theorem State.keepProgress_trackers (f : InFlight) (p : Progress) : (s.keepProgress f p).trackers = s.trackers := rfl
@[simp] theorem State.keepProgress_store (f : InFlight) (p : Progress) : (s.keepProgress f p).store = s.store := rfl
@[simp] theorem State.keepProgress_ctl (f : InFlight) (p : Progress) : (s.keepProgress f p).ctl = s.ctl := rfl
@[simp] theorem State.keepProgress_reg (f : InFlight) (p : Progress) : (s.keepProgress f p).reg = s.reg := rfl
@[simp] theorem State.keepProgress_comp (f : InFlight) (p : Progress) : (s.keepProgress f p).comp = s.comp := rfl
@[simp] theorem State.keepProgress_agent (f : InFlight) (p : Progress) : (s.keepProgress f p).agent = { s.agent with inFlight := some { f with progress := p } } := rfl

/-! ### The Memory Path's fields under the queue operations -/

@[simp] theorem State.enqueue_path_captureWindows (r : Byte) :
    (s.enqueue r).path.captureWindows = s.path.captureWindows := rfl
@[simp] theorem State.enqueue_path_viewWindows (r : Byte) :
    (s.enqueue r).path.viewWindows = s.path.viewWindows := rfl
@[simp] theorem State.enqueue_path_queue (r : Byte) :
    (s.enqueue r).path.queue = s.path.queue ++ [{ requester := r, place := s.serial, answer := none }] := rfl
@[simp] theorem State.enqueue_path_downstream (r : Byte) :
    (s.enqueue r).path.downstream = s.path.downstream := rfl
@[simp] theorem State.enqueue_path_waiting (r : Byte) :
    (s.enqueue r).path.waiting = s.path.waiting := rfl
@[simp] theorem State.enqueue_path_returned (r : Byte) :
    (s.enqueue r).path.returned = s.path.returned := rfl
@[simp] theorem State.answer_path_captureWindows (p : Nat) (a : Answer) :
    (s.answer p a).path.captureWindows = s.path.captureWindows := rfl
@[simp] theorem State.answer_path_viewWindows (p : Nat) (a : Answer) :
    (s.answer p a).path.viewWindows = s.path.viewWindows := rfl
@[simp] theorem State.answer_path_queue (p : Nat) (a : Answer) :
    (s.answer p a).path.queue = s.path.queue.map (QueueEntry.ready p a) := rfl
@[simp] theorem State.answer_path_downstream (p : Nat) (a : Answer) :
    (s.answer p a).path.downstream = s.path.downstream := rfl
@[simp] theorem State.answer_path_waiting (p : Nat) (a : Answer) :
    (s.answer p a).path.waiting = s.path.waiting := rfl
@[simp] theorem State.answer_path_returned (p : Nat) (a : Answer) :
    (s.answer p a).path.returned = s.path.returned := rfl
@[simp] theorem State.forward_path_captureWindows (p d : Nat) (x : Transaction) :
    (s.forward p d x).path.captureWindows = s.path.captureWindows := rfl
@[simp] theorem State.forward_path_viewWindows (p d : Nat) (x : Transaction) :
    (s.forward p d x).path.viewWindows = s.path.viewWindows := rfl
@[simp] theorem State.forward_path_queue (p d : Nat) (x : Transaction) :
    (s.forward p d x).path.queue = s.path.queue := rfl
@[simp] theorem State.forward_path_waiting (p d : Nat) (x : Transaction) :
    (s.forward p d x).path.waiting = s.path.waiting := rfl
@[simp] theorem State.forward_path_returned (p d : Nat) (x : Transaction) :
    (s.forward p d x).path.returned = s.path.returned := rfl
@[simp] theorem State.deliver_path_captureWindows :
    (s.deliver).path.captureWindows = s.path.captureWindows := rfl
@[simp] theorem State.deliver_path_viewWindows :
    (s.deliver).path.viewWindows = s.path.viewWindows := rfl
@[simp] theorem State.deliver_path_queue :
    (s.deliver).path.queue = (splitReady [] s.path.queue).1 := rfl
@[simp] theorem State.deliver_path_downstream :
    (s.deliver).path.downstream = s.path.downstream := rfl
@[simp] theorem State.deliver_path_waiting :
    (s.deliver).path.waiting = s.path.waiting := rfl
@[simp] theorem State.deliver_path_returned :
    (s.deliver).path.returned = s.path.returned ++ (splitReady [] s.path.queue).2 := rfl
@[simp] theorem State.failReads_path_captureWindows :
    (s.failReads).path.captureWindows = s.path.captureWindows := rfl
@[simp] theorem State.failReads_path_viewWindows :
    (s.failReads).path.viewWindows = s.path.viewWindows := rfl
@[simp] theorem State.failReads_path_downstream :
    (s.failReads).path.downstream = s.path.downstream := rfl
@[simp] theorem State.failReads_path_waiting :
    (s.failReads).path.waiting = s.path.waiting := rfl
@[simp] theorem State.failReads_path_returned :
    (s.failReads).path.returned = s.path.returned := rfl

/-! ### The Composer's fields under its operations -/

@[simp] theorem State.freeEntry_comp_views (e : EntryId) :
    (s.freeEntry e).comp.views = s.comp.views := rfl
@[simp] theorem State.freeEntry_comp_table (e : EntryId) :
    (s.freeEntry e).comp.table = upd s.comp.table e fun x => { x with read := none } := rfl
@[simp] theorem State.freeEntry_comp_withdrawn (e : EntryId) :
    (s.freeEntry e).comp.withdrawn = s.comp.withdrawn := rfl
@[simp] theorem State.takeTag_comp_views (e : EntryId) :
    (s.takeTag e).comp.views = s.comp.views := rfl
@[simp] theorem State.takeTag_comp_table (e : EntryId) :
    (s.takeTag e).comp.table = upd s.comp.table e fun x => { x with tag := x.tag + 1 } := rfl
@[simp] theorem State.takeTag_comp_withdrawn (e : EntryId) :
    (s.takeTag e).comp.withdrawn = s.comp.withdrawn := rfl
@[simp] theorem State.putRead_comp_views (e : EntryId) (r : ReadEntry) :
    (s.putRead e r).comp.views = s.comp.views := rfl
@[simp] theorem State.putRead_comp_table (e : EntryId) (r : ReadEntry) :
    (s.putRead e r).comp.table = upd s.comp.table e fun x => { x with read := some r } := rfl
@[simp] theorem State.putRead_comp_withdrawn (e : EntryId) (r : ReadEntry) :
    (s.putRead e r).comp.withdrawn = s.comp.withdrawn := rfl
@[simp] theorem State.closeFrame_comp_views (v : ViewId) (f : FrameName) :
    (s.closeFrame v f).comp.views = upd s.comp.views v fun w => w.setFrame f none := rfl
@[simp] theorem State.closeFrame_comp_table (v : ViewId) (f : FrameName) :
    (s.closeFrame v f).comp.table = s.comp.table := rfl
@[simp] theorem State.closeFrame_comp_withdrawn (v : ViewId) (f : FrameName) :
    (s.closeFrame v f).comp.withdrawn = s.comp.withdrawn := rfl

/-! ### The Agent's updates -/

@[simp] theorem Agent.issue_staging (a : Agent) (g : Config) (o : Nat) (b : List Byte) : (a.issue g o b).staging = a.staging := rfl
@[simp] theorem Agent.issue_inFlight (a : Agent) (g : Config) (o : Nat) (b : List Byte) : (a.issue g o b).inFlight = a.inFlight := rfl
@[simp] theorem Agent.issue_events (a : Agent) (g : Config) (o : Nat) (b : List Byte) : (a.issue g o b).events = a.events := rfl
@[simp] theorem Agent.issue_mask (a : Agent) (g : Config) (o : Nat) (b : List Byte) : (a.issue g o b).mask = a.mask := rfl
@[simp] theorem Agent.issue_attention (a : Agent) (g : Config) (o : Nat) (b : List Byte) : (a.issue g o b).attention = a.attention := rfl
@[simp] theorem Agent.issue_snapshotCount (a : Agent) (g : Config) (o : Nat) (b : List Byte) : (a.issue g o b).snapshotCount = a.snapshotCount := rfl
@[simp] theorem Agent.issue_writes (a : Agent) (g : Config) (o : Nat) (b : List Byte) : (a.issue g o b).writes = a.writes ++ [{ address := g.controlPage + o, bytes := b, answered := none }] := rfl
@[simp] theorem Agent.issue_dumpWrites (a : Agent) (g : Config) (o : Nat) (b : List Byte) : (a.issue g o b).dumpWrites = a.dumpWrites := rfl
@[simp] theorem Agent.setLine_staging (a : Agent) : a.setLine.staging = a.staging := rfl
@[simp] theorem Agent.setLine_inFlight (a : Agent) : a.setLine.inFlight = a.inFlight := rfl
@[simp] theorem Agent.setLine_events (a : Agent) : a.setLine.events = a.events := rfl
@[simp] theorem Agent.setLine_mask (a : Agent) : a.setLine.mask = a.mask := rfl
@[simp] theorem Agent.setLine_attention (a : Agent) : a.setLine.attention = attentionOf a.events a.mask := rfl
@[simp] theorem Agent.setLine_snapshotCount (a : Agent) : a.setLine.snapshotCount = a.snapshotCount := rfl
@[simp] theorem Agent.setLine_writes (a : Agent) : a.setLine.writes = a.writes := rfl
@[simp] theorem Agent.setLine_dumpWrites (a : Agent) : a.setLine.dumpWrites = a.dumpWrites := rfl
@[simp] theorem Agent.raise_staging (a : Agent) (g : Config) (t : Time) (r : Raise) : (a.raise g t r).staging = a.staging := rfl
@[simp] theorem Agent.raise_inFlight (a : Agent) (g : Config) (t : Time) (r : Raise) : (a.raise g t r).inFlight = a.inFlight := rfl
@[simp] theorem Agent.raise_mask (a : Agent) (g : Config) (t : Time) (r : Raise) : (a.raise g t r).mask = a.mask := rfl
@[simp] theorem Agent.raise_snapshotCount (a : Agent) (g : Config) (t : Time) (r : Raise) : (a.raise g t r).snapshotCount = a.snapshotCount := rfl
@[simp] theorem Agent.raise_dumpWrites (a : Agent) (g : Config) (t : Time) (r : Raise) : (a.raise g t r).dumpWrites = a.dumpWrites := rfl
@[simp] theorem Agent.raise_events (a : Agent) (g : Config) (t : Time) (r : Raise) :
    (a.raise g t r).events = upd a.events r.kind.index (·.raised (r.detail t)) := rfl

/-! ### The Controller's updates -/

@[simp] theorem Controller.modModule_field (c : Controller) (m : ModuleId) (f : ModuleComp → ModuleComp) :
    (c.modModule m f).field = c.field := rfl
@[simp] theorem Controller.modModule_pendingField (c : Controller) (m : ModuleId) (f : ModuleComp → ModuleComp) :
    (c.modModule m f).pendingField = c.pendingField := rfl
@[simp] theorem Controller.modModule_zq (c : Controller) (m : ModuleId) (f : ModuleComp → ModuleComp) :
    (c.modModule m f).zq = c.zq := rfl
@[simp] theorem Controller.modModule_zt (c : Controller) (m : ModuleId) (f : ModuleComp → ModuleComp) :
    (c.modModule m f).zt = c.zt := rfl
@[simp] theorem Controller.modModule_rate (c : Controller) (m : ModuleId) (f : ModuleComp → ModuleComp) :
    (c.modModule m f).rate = c.rate := rfl
@[simp] theorem Controller.modModule_rampOpen (c : Controller) (m : ModuleId) (f : ModuleComp → ModuleComp) :
    (c.modModule m f).rampOpen = c.rampOpen := rfl
@[simp] theorem Controller.modModule_pendingZoom (c : Controller) (m : ModuleId) (f : ModuleComp → ModuleComp) :
    (c.modModule m f).pendingZoom = c.pendingZoom := rfl
@[simp] theorem Controller.modModule_forced (c : Controller) (m : ModuleId) (f : ModuleComp → ModuleComp) :
    (c.modModule m f).forced = c.forced := rfl
@[simp] theorem Controller.modModule_pendingForce (c : Controller) (m : ModuleId) (f : ModuleComp → ModuleComp) :
    (c.modModule m f).pendingForce = c.pendingForce := rfl
@[simp] theorem Controller.modModule_candidate (c : Controller) (m : ModuleId) (f : ModuleComp → ModuleComp) :
    (c.modModule m f).candidate = c.candidate := rfl
@[simp] theorem Controller.modModule_phase (c : Controller) (m : ModuleId) (f : ModuleComp → ModuleComp) :
    (c.modModule m f).phase = c.phase := rfl
@[simp] theorem Controller.modModule_direction (c : Controller) (m : ModuleId) (f : ModuleComp → ModuleComp) :
    (c.modModule m f).direction = c.direction := rfl
@[simp] theorem Controller.modModule_k (c : Controller) (m : ModuleId) (f : ModuleComp → ModuleComp) :
    (c.modModule m f).k = c.k := rfl
@[simp] theorem Controller.modModule_fadeInUse (c : Controller) (m : ModuleId) (f : ModuleComp → ModuleComp) :
    (c.modModule m f).fadeInUse = c.fadeInUse := rfl
@[simp] theorem Controller.modModule_alpha (c : Controller) (m : ModuleId) (f : ModuleComp → ModuleComp) :
    (c.modModule m f).alpha = c.alpha := rfl
@[simp] theorem Controller.modModule_unrefined (c : Controller) (m : ModuleId) (f : ModuleComp → ModuleComp) :
    (c.modModule m f).unrefined = c.unrefined := rfl
@[simp] theorem Controller.modModule_generation (c : Controller) (m : ModuleId) (f : ModuleComp → ModuleComp) :
    (c.modModule m f).generation = c.generation := rfl
@[simp] theorem Controller.modModule_prepareCounter (c : Controller) (m : ModuleId) (f : ModuleComp → ModuleComp) :
    (c.modModule m f).prepareCounter = c.prepareCounter := rfl
@[simp] theorem Controller.modModule_frozen (c : Controller) (m : ModuleId) (f : ModuleComp → ModuleComp) :
    (c.modModule m f).frozen = c.frozen := rfl
@[simp] theorem Controller.modModule_params (c : Controller) (m : ModuleId) (f : ModuleComp → ModuleComp) :
    (c.modModule m f).params = c.params := rfl
@[simp] theorem Controller.modModule_pendingParams (c : Controller) (m : ModuleId) (f : ModuleComp → ModuleComp) :
    (c.modModule m f).pendingParams = c.pendingParams := rfl
@[simp] theorem Controller.modModule_mods (c : Controller) (m : ModuleId) (f : ModuleComp → ModuleComp) :
    (c.modModule m f).mods = upd c.mods m f := rfl
@[simp] theorem Controller.modModule_published (c : Controller) (m : ModuleId) (f : ModuleComp → ModuleComp) :
    (c.modModule m f).published = c.published := rfl
@[simp] theorem Controller.publish_field (c : Controller) : c.publish.field = c.field := rfl
@[simp] theorem Controller.publish_pendingField (c : Controller) : c.publish.pendingField = c.pendingField := rfl
@[simp] theorem Controller.publish_zq (c : Controller) : c.publish.zq = c.zq := rfl
@[simp] theorem Controller.publish_zt (c : Controller) : c.publish.zt = c.zt := rfl
@[simp] theorem Controller.publish_rate (c : Controller) : c.publish.rate = c.rate := rfl
@[simp] theorem Controller.publish_rampOpen (c : Controller) : c.publish.rampOpen = c.rampOpen := rfl
@[simp] theorem Controller.publish_pendingZoom (c : Controller) : c.publish.pendingZoom = c.pendingZoom := rfl
@[simp] theorem Controller.publish_forced (c : Controller) : c.publish.forced = c.forced := rfl
@[simp] theorem Controller.publish_pendingForce (c : Controller) : c.publish.pendingForce = c.pendingForce := rfl
@[simp] theorem Controller.publish_candidate (c : Controller) : c.publish.candidate = c.candidate := rfl
@[simp] theorem Controller.publish_phase (c : Controller) : c.publish.phase = c.phase := rfl
@[simp] theorem Controller.publish_direction (c : Controller) : c.publish.direction = c.direction := rfl
@[simp] theorem Controller.publish_k (c : Controller) : c.publish.k = c.k := rfl
@[simp] theorem Controller.publish_fadeInUse (c : Controller) : c.publish.fadeInUse = c.fadeInUse := rfl
@[simp] theorem Controller.publish_alpha (c : Controller) : c.publish.alpha = c.alpha := rfl
@[simp] theorem Controller.publish_unrefined (c : Controller) : c.publish.unrefined = c.unrefined := rfl
@[simp] theorem Controller.publish_generation (c : Controller) : c.publish.generation = c.generation := rfl
@[simp] theorem Controller.publish_prepareCounter (c : Controller) : c.publish.prepareCounter = c.prepareCounter := rfl
@[simp] theorem Controller.publish_frozen (c : Controller) : c.publish.frozen = c.frozen := rfl
@[simp] theorem Controller.publish_params (c : Controller) : c.publish.params = c.params := rfl
@[simp] theorem Controller.publish_pendingParams (c : Controller) : c.publish.pendingParams = c.pendingParams := rfl
@[simp] theorem Controller.publish_mods (c : Controller) : c.publish.mods = c.mods := rfl
@[simp] theorem Controller.publish_published (c : Controller) : c.publish.published = c.publication := rfl

end Sys2Proof.Machine
end

