-- ==== Sys2Proof/Laws/Vectors.lean ====
section
/-! SUPPORT. The small laws of the helpers on fixed-size vectors, roundings and clamps. -/

namespace Sys2Proof.Machine

variable {α β : Type} {n : Nat}

/-- What stands at `j` after element `i` is changed. -/
theorem upd_getElem (v : Vector α n) (i : Fin n) (f : α → α) (j : Nat) (h : j < n) :
    (upd v i f)[j] = if i.val = j then f v[i] else v[j] := by simp [upd, Vector.getElem_set]

@[simp] theorem upd_getElem_self (v : Vector α n) (i : Fin n) (f : α → α) (h : i.val < n) :
    (upd v i f)[i.val] = f v[i] := by simp [upd_getElem]

theorem upd_get (v : Vector α n) (i j : Fin n) (f : α → α) : (upd v i f)[j] = if i = j then f v[i] else v[j] := by
  simp [upd_getElem, Fin.ext_iff]

theorem upd_get_ne (v : Vector α n) {i j : Fin n} (h : i ≠ j) (f : α → α) : (upd v i f)[j] = v[j] := by
  rw [upd_get, if_neg h]

@[simp] theorem mapAll_getElem (f : α → β) (v : Vector α n) (j : Nat) (h : j < n) : (mapAll f v)[j] = f v[j] := by
  obtain ⟨⟨l⟩, hl⟩ := v
  simp [mapAll]

/-- `mapAll` is the library's map. -/
theorem mapAll_eq_map (f : α → β) (v : Vector α n) : mapAll f v = v.map f := by
  apply Vector.ext
  intro i hi
  simp

/-- A vector with the element at `i` replaced, read at a Fin index. -/
theorem set_get (v : Vector α n) (i j : Fin n) (x : α) : (v.set i x)[j] = if i = j then x else v[j] := by
  simp [Vector.getElem_set, Fin.ext_iff]

/-- Changing an element to what a constant function gives is setting it. -/
@[simp] theorem upd_const (v : Vector α n) (i : Fin n) (x : α) : upd v i (fun _ => x) = v.set i x := rfl

theorem clamp_le {a b : Nat} (h : a ≤ b) (v : Nat) : clamp a b v ≤ b := by unfold clamp; split_ifs <;> omega

theorem le_clamp {a b : Nat} (h : a ≤ b) (v : Nat) : a ≤ clamp a b v := by unfold clamp; split_ifs <;> omega

theorem clamp_of_mem {a b v : Nat} (h : a ≤ v) (h' : v ≤ b) : clamp a b v = v := by unfold clamp; split_ifs <;> omega

/-- What `laterBy` gives while the sum needs no more than 64 bits. -/
theorem laterBy_of_lt (n : Nat) {t : Time} {d : Nat} (h : t.toNat + d < 2 ^ 64) :
    laterBy n t d = BitVec.ofNat 64 (t.toNat + d) := if_pos h

end Sys2Proof.Machine
end

