-- ==== Sys2Proof/Laws/Ops.lean ====
section
/-! SUPPORT. What every operation of the block leaves alone: the waiting commands, the integration parameters, the time
read at the event, what waits at the port; and that serial numbers only grow. -/

namespace Sys2Proof.Machine

/-- What an operation inside one event leaves alone. -/
def Keeps (s s' : State) : Prop :=
  s'.pending = s.pending ∧ s'.cfg = s.cfg ∧ s'.time = s.time ∧ s'.path.waiting = s.path.waiting ∧ s.serial ≤ s'.serial

theorem Keeps.refl (s : State) : Keeps s s := ⟨rfl, rfl, rfl, rfl, Nat.le_refl _⟩

theorem Keeps.trans {a b c : State} (h : Keeps a b) (h' : Keeps b c) : Keeps a c :=
  ⟨h'.1.trans h.1, h'.2.1.trans h.2.1, h'.2.2.1.trans h.2.2.1, h'.2.2.2.1.trans h.2.2.2.1, h.2.2.2.2.trans h'.2.2.2.2⟩

/-- An operation that keeps the five fields as they are. -/
theorem Keeps.of_eq {s s' : State} (h1 : s'.pending = s.pending) (h2 : s'.cfg = s.cfg) (h3 : s'.time = s.time)
    (h4 : s'.path.waiting = s.path.waiting) (h5 : s'.serial = s.serial) : Keeps s s' := ⟨h1, h2, h3, h4, h5.ge⟩

/-- A fold of operations that keep. -/
theorem Keeps.foldl {α : Type} (f : State → α → State) (h : ∀ s a, Keeps s (f s a)) (l : List α) (s : State) :
    Keeps s (l.foldl f s) := by
  induction l generalizing s with
  | nil => exact .refl s
  | cons a l ih => exact (h s a).trans (ih _)

/-! ### The Agent, the queues, the holders -/

theorem keeps_raise (s : State) (r : Raise) : Keeps s (s.raise r) := .of_eq rfl rfl rfl rfl rfl
theorem keeps_raiseAll (s : State) (rs : List Raise) : Keeps s (s.raiseAll rs) := .foldl _ keeps_raise rs s
theorem keeps_writeStatus (s : State) (q : Word) (k : Nat) (r : Reply) : Keeps s (s.writeStatus q k r) :=
  .of_eq rfl rfl rfl rfl rfl
theorem keeps_writeSnapshot (s : State) (c : SnapshotCause) : Keeps s (s.writeSnapshot c) := .of_eq rfl rfl rfl rfl rfl
theorem keeps_enqueue (s : State) (r : Byte) : Keeps s (s.enqueue r) := ⟨rfl, rfl, rfl, rfl, Nat.le_succ _⟩
theorem keeps_answer (s : State) (p : Nat) (a : Answer) : Keeps s (s.answer p a) := .of_eq rfl rfl rfl rfl rfl
theorem keeps_forward (s : State) (p d : Nat) (x : Transaction) : Keeps s (s.forward p d x) := .of_eq rfl rfl rfl rfl rfl
theorem keeps_deliver (s : State) : Keeps s s.deliver := .of_eq rfl rfl rfl rfl rfl
theorem keeps_modSlots (s : State) (m : ModuleId) (f : ModuleSlots → ModuleSlots) : Keeps s (s.modSlots m f) :=
  .of_eq rfl rfl rfl rfl rfl
theorem keeps_modTracker (s : State) (m : ModuleId) (f : Tracker → Tracker) : Keeps s (s.modTracker m f) :=
  .of_eq rfl rfl rfl rfl rfl
theorem keeps_modCtl (s : State) (f : Controller → Controller) : Keeps s (s.modCtl f) := .of_eq rfl rfl rfl rfl rfl
theorem keeps_modView (s : State) (v : ViewId) (f : View → View) : Keeps s (s.modView v f) := .of_eq rfl rfl rfl rfl rfl
theorem keeps_modEntry (s : State) (e : EntryId) (f : TableEntry → TableEntry) : Keeps s (s.modEntry e f) :=
  .of_eq rfl rfl rfl rfl rfl

theorem keeps_pin (s : State) (b : Bool) (m : ModuleId) (x : Holder) : Keeps s (s.pin b m x).1 := by
  unfold State.pin State.pinFrozen State.pinNewest
  split
  · split
    · exact keeps_modSlots ..
    · exact .refl s
  · split
    · exact keeps_modSlots ..
    · exact .refl s

/-! ### The View Composer -/

theorem keeps_advance (s : State) (a : Advance) : Keeps s (s.advance a) := by
  unfold State.advance
  split
  · exact .refl s
  · dsimp only
    exact ((keeps_modCtl s fun _ => (advanceStages s a).ctl.publish).trans (keeps_raiseAll _ _)).trans
      (keeps_writeSnapshot _ _)

theorem keeps_beginOpen (s : State) (v : ViewId) : Keeps s (s.beginOpen v) := by
  unfold State.beginOpen
  simp only
  split
  · exact (keeps_modView ..).trans (keeps_advance ..)
  · exact keeps_modView ..

theorem keeps_openPart (s : State) (v : ViewId) (l : Published) (x : Holder) (m : Option ModuleId) :
    Keeps s (s.openPart v l x m).1 := by
  cases m with
  | none => exact .refl s
  | some m => exact keeps_pin s l.frozen m x

theorem keeps_closeFrame (s : State) (v : ViewId) (f : FrameName) : Keeps s (s.closeFrame v f) := .of_eq rfl rfl rfl rfl rfl

theorem keeps_closeIfDrained (s : State) (v : ViewId) (f : FrameName) : Keeps s (s.closeIfDrained v f) := by
  unfold State.closeIfDrained
  split
  · exact keeps_closeFrame ..
  · exact .refl s

theorem keeps_drainOld (s : State) (v : ViewId) (f : FrameName) : Keeps s (s.drainOld v f) := by
  unfold State.drainOld
  split
  · exact (keeps_modView ..).trans (keeps_closeIfDrained ..)
  · exact .refl s

theorem keeps_openFrame (s : State) (v : ViewId) : Keeps s (s.openFrame v) := by
  unfold State.openFrame
  simp only
  split
  · exact (((((keeps_beginOpen s v).trans (keeps_openPart ..)).trans (keeps_openPart ..)).trans (keeps_modView ..)).trans
      (keeps_drainOld ..)).trans (keeps_raise ..)
  · exact ((((keeps_beginOpen s v).trans (keeps_openPart ..)).trans (keeps_openPart ..)).trans (keeps_modView ..)).trans
      (keeps_drainOld ..)

/-- Issuing fetches never takes back a serial number. -/
theorem issue_serial_le (t : Time) (d fuel n : Nat) (r : ReadEntry) : n ≤ (r.issue t d fuel n).2 := by
  induction fuel generalizing n r with
  | zero => exact Nat.le_refl n
  | succ k ih =>
    unfold ReadEntry.issue
    split
    · exact Nat.le_refl n
    · split
      · exact (Nat.le_succ n).trans (ih ..)
      · exact Nat.le_refl n

theorem keeps_issueFetches (s : State) (e : EntryId) (r : ReadEntry) (fuel : Nat) : Keeps s (s.issueFetches e r fuel) :=
  ⟨rfl, rfl, rfl, rfl, issue_serial_le ..⟩

theorem keeps_beginFetch (s : State) (e : EntryId) (r : ReadEntry) (f : FrameName) (o : OutputFrame) :
    Keeps s (s.beginFetch e r f o) := by
  unfold State.beginFetch
  split
  · exact keeps_modEntry ..
  · exact keeps_issueFetches ..

theorem keeps_releaseEntry (f : FrameName) (o : OutputFrame) (s : State) (e : EntryId) :
    Keeps s (State.releaseEntry f o s e) := by
  unfold State.releaseEntry
  split
  · exact .refl s
  · split
    · exact keeps_beginFetch ..
    · exact (keeps_answer ..).trans (keeps_modEntry ..)
    · exact .refl s

theorem keeps_openHeader (s : State) (v : ViewId) (p : Nat) : Keeps s (s.openHeader v p) := by
  unfold State.openHeader
  simp only
  split
  · exact keeps_openFrame s v
  · split
    · exact keeps_openFrame s v
    · exact (keeps_openFrame s v).trans (.foldl _ (keeps_releaseEntry _ _) _ _)

theorem keeps_openWaiting (v : ViewId) (ps : List Nat) (s : State) : Keeps s (openWaiting v ps s) := by
  induction ps generalizing s with
  | nil => exact .refl s
  | cons p ps ih =>
    unfold openWaiting
    split
    · exact .refl s
    · exact (keeps_openHeader s v p).trans (ih _)

theorem keeps_afterLeave (s : State) (v : ViewId) : Keeps s (s.afterLeave v) :=
  ((keeps_closeIfDrained ..).trans (keeps_closeIfDrained ..)).trans (keeps_openWaiting ..)

theorem keeps_answerEmpty (s : State) (v : ViewId) (p o n : Nat) : Keeps s (s.answerEmpty v p o n) := by
  unfold State.answerEmpty State.reportUnopened
  split
  · exact keeps_answer ..
  · exact ((keeps_answer ..).trans (keeps_modView ..)).trans (keeps_raise ..)

theorem keeps_acceptHeader (s : State) (q : Byte) (e : EntryId) (v : ViewId) (p n : Nat) :
    Keeps s (s.acceptHeader q e v p n) := by
  unfold State.acceptHeader
  split
  · simp only
    split
    · exact (keeps_openFrame s v).trans (keeps_answer ..)
    · exact keeps_openFrame s v
  · exact keeps_modEntry ..

theorem keeps_acceptOnOpen (s : State) (q : Byte) (e : EntryId) (v : ViewId) (p o n : Nat) :
    Keeps s (s.acceptOnOpen q e v p o n) := by
  unfold State.acceptOnOpen
  split
  · exact keeps_answerEmpty ..
  · split
    · exact keeps_answerEmpty ..
    · split
      · exact keeps_answer ..
      · exact keeps_beginFetch ..

theorem keeps_acceptViewRead (s : State) (q : Byte) (v : ViewId) (p o n : Nat) : Keeps s (s.acceptViewRead q v p o n) := by
  unfold State.acceptViewRead
  split
  · exact .refl s
  · simp only
    split
    · exact (keeps_modEntry ..).trans (keeps_acceptHeader ..)
    · split
      · exact (keeps_modEntry ..).trans (keeps_modEntry ..)
      · split
        · exact (keeps_modEntry ..).trans (keeps_acceptOnOpen ..)
        · exact (keeps_modEntry ..).trans (keeps_answerEmpty ..)

theorem keeps_failEntry (s : State) (e : EntryId) (r : ReadEntry) (m : ModuleId) (k : Nat) :
    Keeps s (s.failEntry e r m k) :=
  (show Keeps s _ from .of_eq rfl rfl rfl rfl rfl).trans (keeps_afterLeave _ _)

theorem keeps_fetchAnswer (s : State) (e : EntryId) (g : Byte) (n : Nat) (a : MemAnswer) :
    Keeps s (s.fetchAnswer e g n a) := by
  have late : Keeps s (s.lateAnswer n) := .of_eq rfl rfl rfl rfl rfl
  unfold State.fetchAnswer
  split
  · exact late
  · split
    · split
      · exact late
      · split
        · exact keeps_issueFetches ..
        · exact keeps_failEntry ..
    · exact late

theorem keeps_fetchTimeout (s : State) (e : EntryId) : Keeps s (s.fetchTimeout e) := by
  unfold State.fetchTimeout
  split
  · exact .refl s
  · split
    · split
      · exact .refl s
      · split
        · split
          · exact .refl s
          · exact keeps_failEntry ..
        · exact .refl s
    · exact .refl s

theorem keeps_completeRead (s : State) (e : EntryId) : Keeps s (s.completeRead e) := by
  unfold State.completeRead
  split
  · exact .refl s
  · split
    · split
      · exact .refl s
      · exact ((keeps_answer ..).trans (keeps_modEntry ..)).trans (keeps_afterLeave ..)
    · exact .refl s

/-! ### The Agent and the commands -/

theorem keeps_finishCommand (q : Word) (k : Nat) (b : Bool) (s : State) (e : Ended) (h : Keeps s e.1) :
    Keeps s (finishCommand q k b e) := by
  unfold finishCommand
  simp only
  split
  · exact (h.trans (keeps_writeSnapshot ..)).trans (keeps_writeStatus ..)
  · exact h.trans (keeps_writeStatus ..)

theorem keeps_finishTimed (q : Word) (k : Nat) (b : Bool) (s : State) (e : Ended) (h : Keeps s e.1) :
    Keeps s (finishTimed q k b e) :=
  (keeps_finishCommand q k b s (e.1.raise (commandDoneRaise q k e.2), e.2) (h.trans (keeps_raise ..))).trans
    (.of_eq rfl rfl rfl rfl rfl)

theorem keeps_startTimed (q : Word) (k : Nat) (s : State) (x : Triggered) : Keeps s (startTimed q k s x) := by
  cases x with
  | ended r => exact keeps_finishTimed _ _ _ s (s, r) (.refl s)
  | started op => exact ⟨rfl, rfl, rfl, rfl, Nat.le_succ _⟩

theorem keeps_resetAll (s : State) (q : Word) : Keeps s (s.resetAll q) := .of_eq rfl rfl rfl rfl rfl

/-! #### Every immediate command keeps -/

theorem keeps_configureModule (m o w h d : Word) (a : Addr) (l : Word) (s : State) :
    Keeps s (cmdConfigureModule m o w h d a l s).1 := by
  unfold cmdConfigureModule
  repeat' (first | split | dsimp only)
  all_goals exact .of_eq rfl rfl rfl rfl rfl

theorem keeps_enableModule (m : Word) (s : State) : Keeps s (cmdEnableModule m s).1 := by
  unfold cmdEnableModule
  repeat' split
  all_goals exact .of_eq rfl rfl rfl rfl rfl

theorem keeps_disableModule (m : Word) (s : State) : Keeps s (cmdDisableModule m s).1 := by
  unfold cmdDisableModule
  repeat' split
  all_goals exact .of_eq rfl rfl rfl rfl rfl

theorem keeps_resetModule (m : Word) (s : State) : Keeps s (cmdResetModule m s).1 := by
  unfold cmdResetModule
  repeat' split
  all_goals exact .of_eq rfl rfl rfl rfl rfl

theorem keeps_holdFrame (m : Word) (s : State) : Keeps s (cmdHoldFrame m s).1 := by
  unfold cmdHoldFrame
  repeat' split
  all_goals exact .of_eq rfl rfl rfl rfl rfl

theorem keeps_releaseHold (m k : Word) (s : State) : Keeps s (cmdReleaseHold m k s).1 := by
  unfold cmdReleaseHold
  repeat' (first | split | dsimp only)
  all_goals exact .of_eq rfl rfl rfl rfl rfl

theorem keeps_setField (w lo hi : Word) (s : State) : Keeps s (cmdSetField w lo hi s).1 := by
  unfold cmdSetField
  repeat' split
  all_goals exact .of_eq rfl rfl rfl rfl rfl

theorem keeps_zoomTo (z r : Word) (s : State) : Keeps s (cmdZoomTo z r s).1 := by
  unfold cmdZoomTo
  dsimp only
  split
  all_goals exact .of_eq rfl rfl rfl rfl rfl

theorem keeps_forceModule (m : Word) (s : State) : Keeps s (cmdForceModule m s).1 := by
  unfold cmdForceModule
  repeat' split
  all_goals exact .of_eq rfl rfl rfl rfl rfl

theorem keeps_freezeModule (s : State) (m : ModuleId) : Keeps s (s.freezeModule m) := .of_eq rfl rfl rfl rfl rfl

theorem keeps_freeze (s : State) : Keeps s (cmdFreeze s).1 := by
  unfold cmdFreeze
  split
  · exact .refl s
  · exact (Keeps.foldl _ keeps_freezeModule _ _).trans (keeps_modCtl ..)

theorem keeps_thaw (s : State) : Keeps s (cmdThaw s).1 := by
  unfold cmdThaw
  split
  all_goals exact .of_eq rfl rfl rfl rfl rfl

theorem keeps_configureView (v w h d : Word) (a : Addr) (l : Word) (s : State) :
    Keeps s (cmdConfigureView v w h d a l s).1 := by
  unfold cmdConfigureView
  repeat' (first | split | dsimp only)
  all_goals exact .of_eq rfl rfl rfl rfl rfl

theorem keeps_enableView (v : Word) (s : State) : Keeps s (cmdEnableView v s).1 := by
  unfold cmdEnableView
  repeat' split
  all_goals exact .of_eq rfl rfl rfl rfl rfl

theorem keeps_closeAny (s : State) (v : ViewId) (f : FrameName) : Keeps s (s.closeAny v f) := by
  unfold State.closeAny
  split
  · exact keeps_closeFrame ..
  · exact .refl s

theorem keeps_disableView (v : Word) (s : State) : Keeps s (cmdDisableView v s).1 := by
  unfold cmdDisableView
  split
  · exact .refl s
  · split
    · exact .refl s
    · split
      · exact .refl s
      · exact ((((keeps_closeAny s _ .a).trans (keeps_closeAny _ _ .b)).trans (keeps_modView ..)).trans
          (.of_eq rfl rfl rfl rfl rfl))

/-- An operation on the Agent alone keeps. -/
theorem keeps_agent (s : State) (a : Agent) : Keeps s { s with agent := a } := .of_eq rfl rfl rfl rfl rfl

theorem keeps_dispatch (q : Word) (c : Command) (s : State) : Keeps s (dispatch q c s) := by
  cases c with
  | configureModule => exact keeps_finishCommand _ _ _ s _ (keeps_configureModule ..)
  | enableModule => exact keeps_finishCommand _ _ _ s _ (keeps_enableModule ..)
  | disableModule => exact keeps_finishCommand _ _ _ s _ (keeps_disableModule ..)
  | resetModule => exact keeps_finishCommand _ _ _ s _ (keeps_resetModule ..)
  | loadSlots => exact keeps_startTimed ..
  | holdFrame => exact keeps_finishCommand _ _ _ s _ (keeps_holdFrame ..)
  | releaseHold => exact keeps_finishCommand _ _ _ s _ (keeps_releaseHold ..)
  | dumpSlots => exact keeps_startTimed ..
  | loadCalibration => exact keeps_startTimed ..
  | setField => exact keeps_finishCommand _ _ _ s _ (keeps_setField ..)
  | zoomTo => exact keeps_finishCommand _ _ _ s _ (keeps_zoomTo ..)
  | forceModule => exact keeps_finishCommand _ _ _ s _ (keeps_forceModule ..)
  | releaseForce => exact keeps_finishCommand _ _ _ s _ (keeps_modCtl ..)
  | setHandoff => exact keeps_finishCommand _ _ _ s _ (keeps_modCtl ..)
  | freeze => exact keeps_finishCommand _ _ _ s _ (keeps_freeze s)
  | thaw => exact keeps_finishCommand _ _ _ s _ (keeps_thaw s)
  | configureView => exact keeps_finishCommand _ _ _ s _ (keeps_configureView ..)
  | enableView => exact keeps_finishCommand _ _ _ s _ (keeps_enableView ..)
  | disableView => exact keeps_finishCommand _ _ _ s _ (keeps_disableView ..)
  | clearEvents => exact keeps_finishCommand _ _ _ s _ (keeps_agent ..)
  | setAttention => exact keeps_finishCommand _ _ _ s _ (keeps_agent ..)
  | resetAll => exact keeps_resetAll s q

theorem keeps_take (s : State) (q : Word) (c : Command) : Keeps s (s.take q c) := by
  unfold State.take
  split
  · exact keeps_resetAll ..
  · split
    · exact keeps_writeStatus ..
    · exact keeps_dispatch ..

theorem keeps_trigger (s : State) (cell : List Byte) : Keeps s (s.trigger cell) := by
  unfold State.trigger
  split
  · exact keeps_take ..
  · split
    · exact keeps_writeStatus ..
    · exact keeps_writeStatus ..

theorem keeps_cellWrite (s : State) (o : Nat) (b : List Byte) : Keeps s (s.cellWrite o b) := by
  unfold State.cellWrite
  dsimp only
  split
  · exact (keeps_agent s _).trans (keeps_trigger _ _)
  · exact keeps_agent s _

/-! ### Traffic -/

theorem keeps_openCapture (s : State) (m : ModuleId) : Keeps s (s.openCapture m) := by
  unfold State.openCapture
  split
  · exact (keeps_modSlots ..).trans (keeps_modTracker ..)
  · exact (keeps_modTracker ..).trans (keeps_raise ..)

theorem keeps_pixelOpen (s : State) (m : ModuleId) (p o : Nat) (x : Transaction) : Keeps s (s.pixelOpen m p o x) := by
  unfold State.pixelOpen
  split
  · exact (keeps_modTracker ..).trans (keeps_forward ..)
  · exact keeps_answer ..

theorem keeps_pixelWrite (s : State) (m : ModuleId) (p o : Nat) (x : Transaction) : Keeps s (s.pixelWrite m p o x) := by
  unfold State.pixelWrite
  split
  · exact (keeps_openCapture ..).trans (keeps_pixelOpen ..)
  · exact keeps_pixelOpen ..

theorem keeps_renew (s : State) (m : ModuleId) (f : Word) : Keeps s (s.renew m f) := by
  unfold State.renew
  simp only
  split
  · exact keeps_modTracker ..
  · exact (keeps_modTracker ..).trans (keeps_raise ..)

theorem keeps_lookForPair (s : State) (m : ModuleId) : Keeps s (s.lookForPair m) := by
  unfold State.lookForPair
  repeat' split
  all_goals exact .of_eq rfl rfl rfl rfl rfl

theorem keeps_trailer (s : State) (m : ModuleId) (t : Trailer) : Keeps s (s.trailer m t) := by
  unfold State.trailer
  repeat' split
  · exact (((show Keeps s ((s.closeSlot m _ _ t).setIdle m) from .of_eq rfl rfl rfl rfl rfl).trans (keeps_renew ..)).trans
      (keeps_modCtl ..)).trans (keeps_lookForPair ..)
  · exact (show Keeps s (((s.returnFill m).setIdle m).trailerBad m t.frame _) from .of_eq rfl rfl rfl rfl rfl).trans
      (keeps_renew ..)
  · exact (keeps_modTracker ..).trans (keeps_renew ..)
  · exact (show Keeps s ((s.setIdle m).trailerBad m t.frame _) from .of_eq rfl rfl rfl rfl rfl).trans (keeps_renew ..)
  · exact (keeps_raise ..).trans (keeps_renew ..)
  · exact .refl s

theorem keeps_trailerWrite (s : State) (m : ModuleId) (p o : Nat) (x : Transaction) :
    Keeps s (s.trailerWrite m p o x) := by
  unfold State.trailerWrite State.malformed
  simp only
  split
  · exact (keeps_trailer ..).trans (keeps_answer ..)
  · split
    all_goals exact .of_eq rfl rfl rfl rfl rfl

/-- Whatever its class, a transaction dealt with keeps. -/
theorem keeps_acceptClass (s : State) (p : Nat) (x : Transaction) (c : Option ByteClass) :
    Keeps s (s.acceptClass p x c) := by
  unfold State.acceptClass
  split
  · exact (keeps_answer ..).trans (keeps_raise ..)
  · simp only
    split
    · unfold State.captureWrite
      split
      · split
        · exact keeps_pixelWrite ..
        · exact keeps_trailerWrite ..
      · exact .of_eq rfl rfl rfl rfl rfl
    · unfold State.captureRead
      repeat' split
      all_goals exact .of_eq rfl rfl rfl rfl rfl
  · split
    · exact .of_eq rfl rfl rfl rfl rfl
    · exact keeps_acceptViewRead ..
  · unfold State.controlAccess
    simp only
    split
    · exact (keeps_forward ..).trans (keeps_cellWrite ..)
    · exact keeps_forward ..
  · unfold State.slotAccess
    split
    all_goals exact .of_eq rfl rfl rfl rfl rfl
  · exact keeps_forward ..
  · exact keeps_forward ..

theorem keeps_accept (s : State) (x : Transaction) : Keeps s (s.accept x) :=
  (keeps_enqueue ..).trans (keeps_acceptClass ..)

/-- While nothing waits at the port, the end of an event only returns the answers that are ready. -/
theorem finish_of_none {s : State} (h : s.path.waiting = []) : s.finish = s.deliver := by
  unfold State.finish
  rw [h, drain]
  congr 1
  obtain ⟨_, _, _, _, ⟨_, _, _, _, _, _⟩, _, _, _, _, _, _⟩ := s
  simp_all

/-- A transaction that arrives at an idle port and need not stall is accepted, and what is ready is returned. -/
theorem arrive_of_free {s : State} {x : Transaction} (h : s.path.waiting = []) (hr : s.routed x = true)
    (hs : s.stalls x = false) : s.arrive x = (s.accept x).deliver := by
  have hk := (keeps_accept s x).2.2.2.1
  unfold State.arrive
  rw [if_pos hr, h, List.nil_append, drain, if_neg (by simp [hs])]
  exact (finish_of_none (hk.trans h) ▸ by rw [State.finish, hk, h])

end Sys2Proof.Machine
end

