-- ==== Sys2Proof/Laws/Commands.lean ====
section
/-! SUPPORT. How a triggered command is taken, which module or view an argument names, and what answers do to the progress of
the command in flight. -/

namespace Sys2Proof.Machine

/-- With no command in flight a triggered command is dispatched (R158). -/
theorem take_of_idle {s : State} (h : s.agent.inFlight = none) (q : Word) (c : Command) : s.take q c = dispatch q c s := by
  unfold State.take
  rw [h]
  split
  · subst c; rfl
  · rfl

/-- With a command in flight every other command but RESET_ALL is answered BUSY (R158). -/
theorem take_of_busy {s : State} {f : InFlight} (h : s.agent.inFlight = some f) (q : Word) {c : Command}
    (hc : c ≠ .resetAll) : s.take q c = s.busy q c.kind f := by
  unfold State.take
  rw [if_neg hc, h]

/-- The view an argument names, written as that argument. -/
theorem viewArg_word (v : ViewId) : viewArg (word v.val) = some v := by
  revert v; decide

/-- A view number above 1 names no view (8.2). -/
theorem viewArg_none {v : Word} (h : 1 < v.toNat) : viewArg v = none := by
  unfold viewArg
  rw [dif_neg (by omega)]

/-- An argument that names a module is its number, below the module count (2.8). -/
theorem moduleArg_some {cfg : Config} {m : Word} {i : ModuleId} (h : moduleArg cfg m = some i) :
    m.toNat = i.val ∧ i.val < cfg.modules.toNat := by
  unfold moduleArg at h
  split at h
  · split at h
    · simp only [Option.some.injEq] at h
      subst h
      exact ⟨rfl, by assumption⟩
    · cases h
  · cases h

/-- A module number at or above the module count names no module (2.8). -/
theorem moduleArg_none {cfg : Config} {m : Word} (h : cfg.modules.toNat ≤ m.toNat) : moduleArg cfg m = none := by
  unfold moduleArg
  rw [if_neg (by omega)]

/-! ### The progress of a command in flight (R50, R55, R61, R161) -/

/-- An event without a fresh erring answer fails no access. -/
theorem firstFailed_none {n : Nat} {p : Progress} {a : AccessAnswers n}
    (h : ∀ j, p.fresh a j = true → a.errs.getLsbD j = false) : p.firstFailed a = none := by
  unfold Progress.firstFailed
  rw [List.find?_eq_none]
  intro j _
  cases hf : p.fresh a j with
  | false => simp
  | true => simp [h j hf]

/-- The first failed access is the first fresh erring answer. -/
theorem firstFailed_some {n j : Nat} {p : Progress} {a : AccessAnswers n} (hj : p.fresh a j = true)
    (he : a.errs.getLsbD j = true) (hl : ∀ i, i < j → p.fresh a i = true → a.errs.getLsbD i = false) :
    p.firstFailed a = some j := by
  have hlt : j < p.answers.length := by
    by_contra hc
    simp [Progress.fresh, List.getElem?_eq_none (Nat.le_of_not_lt hc)] at hj
  unfold Progress.firstFailed
  rw [List.find?_range_eq_some]
  refine ⟨by simp [hj, he], List.mem_range.mpr hlt, fun i hi => ?_⟩
  cases hf : p.fresh a i with
  | false => simp
  | true => simp [hl i hi hf]

@[simp] theorem length_receive {n : Nat} (p : Progress) (a : AccessAnswers n) (b : List Byte) :
    (p.receive a b).answers.length = p.answers.length := by simp [Progress.receive]

@[simp] theorem issued_receive {n : Nat} (p : Progress) (a : AccessAnswers n) (b : List Byte) :
    (p.receive a b).issued = p.issued := rfl

@[simp] theorem answers_issueTo (p : Progress) (n : Nat) : (p.issueTo n).answers = p.answers := rfl

/-- Write j of the issued ones lies at buffer + 32j and is marked as memory answered it (R55). -/
theorem getElem?_dumpWritesOf (b : Nat) (es : List (List Byte)) (n : Nat) (mark : Nat → Option Bool) (j : Nat) :
    (dumpWritesOf b es n mark)[j]?
      = if j < n then es[j]?.map fun e => { address := b + 32 * j, bytes := e, answered := mark j } else none := by
  unfold dumpWritesOf
  rw [List.getElem?_mapIdx, List.getElem?_take]
  split <;> rfl

/-! ### What the ends leave alone -/

theorem keeps_endLoadSlots (m : ModuleId) (n : Nat) (b : List Byte) (s : State) : Keeps s (endLoadSlots m n b s).1 := by
  unfold endLoadSlots
  dsimp only
  split
  all_goals exact .of_eq rfl rfl rfl rfl rfl

theorem keeps_endLoadCalibration (m : ModuleId) (b : List Byte) (s : State) : Keeps s (endLoadCalibration m b s).1 := by
  unfold endLoadCalibration
  split
  all_goals exact .of_eq rfl rfl rfl rfl rfl

/-- Answers to reads keep, where both ends do. -/
theorem keeps_takeReads {n : Nat} (s : State) (f : InFlight) (k : Bool) (a : AccessAnswers n) (b : List Byte)
    (failed : Nat → Ended) (read : List Byte → Ended) (hf : ∀ j, Keeps s (failed j).1) (hr : ∀ b, Keeps s (read b).1) :
    Keeps s (s.takeReads f k a b failed read) := by
  unfold State.takeReads
  split
  · exact keeps_finishTimed _ _ _ s _ (hf _)
  · dsimp only
    split
    · exact keeps_finishTimed _ _ _ s _ (hr _)
    · exact .of_eq rfl rfl rfl rfl rfl

theorem keeps_takeWrites (s : State) (f : InFlight) (b : Nat) (es : List (List Byte)) (i : Nat) (a : AccessAnswers 8) :
    Keeps s (s.takeWrites f b es i a) := by
  unfold State.takeWrites
  dsimp only
  split
  · exact keeps_finishTimed _ _ _ s _ (.of_eq rfl rfl rfl rfl rfl)
  · split
    · exact keeps_finishTimed _ _ _ s _ (.of_eq rfl rfl rfl rfl rfl)
    · exact .of_eq rfl rfl rfl rfl rfl

theorem keeps_loadSlotsEnd (s : State) (n : Nat) (a : AccessAnswers 8) (b : List Byte) : Keeps s (s.loadSlotsEnd n a b) := by
  unfold State.loadSlotsEnd
  repeat' split
  any_goals exact .refl s
  exact keeps_takeReads _ _ _ _ _ _ _ (fun _ => .refl s) fun _ => keeps_endLoadSlots ..

theorem keeps_dumpSlotsEnd (s : State) (n : Nat) (a : AccessAnswers 8) (i : Nat) : Keeps s (s.dumpSlotsEnd n a i) := by
  unfold State.dumpSlotsEnd
  repeat' split
  any_goals exact .refl s
  exact keeps_takeWrites ..

theorem keeps_loadCalibrationEnd (s : State) (n : Nat) (a : AccessAnswers 12) (b : List Byte) :
    Keeps s (s.loadCalibrationEnd n a b) := by
  unfold State.loadCalibrationEnd
  repeat' split
  any_goals exact .refl s
  exact keeps_takeReads _ _ _ _ _ _ _ (fun _ => .refl s) fun _ => keeps_endLoadCalibration ..

end Sys2Proof.Machine
end

