-- ==== Sys2Proof/Laws/Handoff.lean ====
section
/-! SUPPORT. What a pacing advance does, said once: the events it leaves, what each stage keeps of the Controller, and which
events each stage raises. -/

namespace Sys2Proof.Machine

/-! ### Events raised one after another -/

theorem raiseAll_append (s : State) (as bs : List Raise) : s.raiseAll (as ++ bs) = (s.raiseAll as).raiseAll bs := by
  simp [State.raiseAll]

/-- Raises touch the Agent alone. -/
theorem raiseAll_eq (s : State) (rs : List Raise) : ∃ a, s.raiseAll rs = { s with agent := a } := by
  induction rs generalizing s with
  | nil => exact ⟨s.agent, rfl⟩
  | cons r rs ih => exact (ih (s.raise r)).imp fun a h => h.trans rfl

/-- A kind that no raise names stays as it was. -/
theorem raiseAll_quiet {n : Fin 16} {rs : List Raise} (h : ∀ r ∈ rs, r.kind.index ≠ n) (s : State) :
    (s.raiseAll rs).agent.events[n] = s.agent.events[n] := by
  induction rs generalizing s with
  | nil => rfl
  | cons r rs ih =>
    refine (ih (fun x hx => h x (List.mem_cons_of_mem _ hx)) (s.raise r)).trans ?_
    rw [State.raise_agent, Agent.raise_events, upd_get_ne _ (h r List.mem_cons_self)]

/-- The last raise of a kind is what the kind then shows. -/
theorem raiseAll_last {rs : List Raise} (r : Raise) (h : ∀ x ∈ rs, x.kind.index ≠ r.kind.index) (as : List Raise)
    (s : State) :
    (s.raiseAll (as ++ r :: rs)).agent.events[r.kind.index].flag = true
      ∧ (s.raiseAll (as ++ r :: rs)).agent.events[r.kind.index].detail = r.detail s.time := by
  obtain ⟨g, hg⟩ := raiseAll_eq s as
  have : (s.raiseAll (as ++ r :: rs)).agent.events[r.kind.index]
      = ((s.raiseAll as).raise r).agent.events[r.kind.index] := by
    rw [raiseAll_append]
    exact raiseAll_quiet h _
  rw [this, State.raise_agent, Agent.raise_events, upd_get, if_pos rfl, hg]
  exact ⟨rfl, rfl⟩

/-- After several raises a kind is as it was, or shows one of those of its kind. -/
theorem raiseAll_cases (n : Fin 16) (rs : List Raise) (s : State) :
    (s.raiseAll rs).agent.events[n] = s.agent.events[n]
      ∨ ∃ r ∈ rs, r.kind.index = n ∧ (s.raiseAll rs).agent.events[n].flag = true
        ∧ (s.raiseAll rs).agent.events[n].detail = r.detail s.time := by
  induction rs using List.reverseRecOn with
  | nil => exact .inl rfl
  | append_singleton rs r ih =>
    by_cases h : r.kind.index = n
    · subst h
      exact .inr ⟨r, by simp, rfl, raiseAll_last r (by simp) rs s⟩
    · have : (s.raiseAll (rs ++ [r])).agent.events[n] = (s.raiseAll rs).agent.events[n] := by
        rw [raiseAll_append]
        exact raiseAll_quiet (by simpa using h) _
      rw [this]
      exact ih.imp id fun ⟨x, hx, h'⟩ => ⟨x, List.mem_append_left _ hx, h'⟩

/-! ### The advance by its stages -/

/-- What an advance that is not frozen leaves. -/
theorem advance_eq {s : State} (h : s.ctl.frozen = false) (a : Advance) :
    s.advance a = (({ s with ctl := (advanceStages s a).ctl.publish } : State).raiseAll
      (advanceStages s a).raised).writeSnapshot (.advance a.view a.frame) := by
  simp [State.advance, h]

theorem advance_ctl {s : State} (h : s.ctl.frozen = false) (a : Advance) :
    (s.advance a).ctl = (advanceStages s a).ctl.publish := by
  rw [advance_eq h, State.writeSnapshot_ctl]
  obtain ⟨g, hg⟩ := raiseAll_eq { s with ctl := (advanceStages s a).ctl.publish } (advanceStages s a).raised
  rw [hg]

theorem advance_events {s : State} (h : s.ctl.frozen = false) (a : Advance) :
    (s.advance a).agent.events = (({ s with ctl := (advanceStages s a).ctl.publish } : State).raiseAll
      (advanceStages s a).raised).agent.events := by
  rw [advance_eq h]
  rfl

/-! ### The zoom stage -/

/-- What the zoom stage leaves of the Controller: everything but zoom, target, rate, ramp, requests and force. -/
theorem zoomStage_keeps (a : Advance) (c : Controller) :
    let z := (zoomStage a c.transfer).ctl
    z.phase = c.phase ∧ z.direction = c.direction ∧ z.k = c.k ∧ z.fadeInUse = c.fadeInUse ∧ z.alpha = c.alpha
      ∧ z.unrefined = c.unrefined ∧ z.generation = c.generation ∧ z.frozen = c.frozen
      ∧ z.prepareCounter = c.prepareCounter
      ∧ ∀ (m : Nat) (h : m < 4), z.mods[m] =
          { c.mods[m] with
            calibration := c.mods[m].pendingCalibration.getD c.mods[m].calibration, pendingCalibration := none } := by
  unfold zoomStage rampEnd zoomClamp
  dsimp only
  split <;> simp [Controller.stepZoom, Controller.takeRequests, Controller.transfer]

/-- The zoom stage raises ZOOM_CLAMPED and RAMP_DONE only. -/
theorem zoomStage_raised (a : Advance) (c : Controller) (r : Raise) (h : r ∈ (zoomStage a c).raised) :
    r.kind = .zoomClamped ∨ r.kind = .rampDone := by
  unfold zoomStage rampEnd zoomClamp at h
  dsimp only at h
  split at h
  · simp only [List.mem_append, List.mem_singleton] at h
    rcases h with h | h
    · split at h
      · simp_all
      · simp at h
    · simp [h]
  · split at h
    · simp_all
    · simp at h

/-! ### What the hand-off and level stages keep -/

/-- A module's entry with what a hand-off changes blanked out. -/
def ModuleComp.kept (x : ModuleComp) : ModuleComp :=
  { x with gain := 0, relaxStart := 0, relaxStep := 0, rx := 0, ry := 0, rect := none, barred := false }

/-- The Controller with what a hand-off changes blanked out: two Controllers with the same `kept` agree on everything
else. -/
def Controller.kept (c : Controller) : Controller :=
  { c with
    phase := .starved none, direction := .forward, k := 0, fadeInUse := 0, alpha := 0, unrefined := false
    generation := 0, prepareCounter := 0, mods := mapAll ModuleComp.kept c.mods }

/-- What equal kept parts say of a module. -/
theorem kept_mods {c c' : Controller} (h : c'.kept = c.kept) (m : Nat) (hm : m < 4) :
    c'.mods[m].calibration = c.mods[m].calibration ∧ c'.mods[m].pendingCalibration = c.mods[m].pendingCalibration
      ∧ c'.mods[m].resetMark = c.mods[m].resetMark := by
  have h' : (mapAll ModuleComp.kept c'.mods)[m] = (mapAll ModuleComp.kept c.mods)[m] := by
    rw [show mapAll ModuleComp.kept c'.mods = mapAll ModuleComp.kept c.mods from congrArg Controller.mods h]
  simp only [mapAll_getElem] at h'
  injection h' with h1 h2 _ _ _ _ _ _ _ h3
  exact ⟨h1, h2, h3⟩

@[simp] theorem kept_modModule (c : Controller) (m : ModuleId) {f : ModuleComp → ModuleComp}
    (h : ∀ x, (f x).kept = x.kept) : (c.modModule m f).kept = c.kept := by
  have : mapAll ModuleComp.kept (upd c.mods m f) = mapAll ModuleComp.kept c.mods := by
    apply Vector.ext
    intro i hi
    simp only [mapAll_getElem, upd_getElem]
    split
    · rename_i e
      subst e
      exact h _
    · rfl
  simp only [Controller.kept, Controller.modModule, this]

@[simp] theorem kept_clearRects (c : Controller) : c.clearRects.kept = c.kept := by
  have : mapAll ModuleComp.kept (mapAll (fun (x : ModuleComp) => { x with rect := none }) c.mods)
      = mapAll ModuleComp.kept c.mods := by
    apply Vector.ext
    intro i hi
    simp [ModuleComp.kept]
  simp only [Controller.kept, Controller.clearRects, this]

@[simp] theorem kept_unity (x : ModuleComp) : x.unity.kept = x.kept := rfl
@[simp] theorem kept_takeOver (l : Nat) (x : ModuleComp) : (x.takeOver l).kept = x.kept := rfl
@[simp] theorem kept_relax (l : Nat) (x : ModuleComp) : (x.relax l).kept = x.kept := by
  unfold ModuleComp.relax
  repeat' split
  all_goals rfl

@[simp] theorem kept_settle (c : Controller) (m : ModuleId) : (c.settle m).kept = c.kept := kept_clearRects _

@[simp] theorem kept_retire (c : Controller) (f : Option ModuleId) (m : ModuleId) : (c.retire f m).kept = c.kept := by
  unfold Controller.retire
  repeat' split
  all_goals first | rfl | exact kept_modModule _ _ kept_unity

@[simp] theorem kept_cut (a : Advance) (x : Staged) (m : ModuleId) : (cut a x m).ctl.kept = x.ctl.kept :=
  (kept_modModule _ _ (kept_takeOver _)).trans ((kept_settle _ _).trans (kept_retire _ _ _))

@[simp] theorem kept_giveWay (a : Advance) (x : Staged) (m : ModuleId) : (giveWay a x m).ctl.kept = x.ctl.kept := by
  unfold giveWay
  split
  · exact kept_cut _ _ _
  · exact kept_clearRects _

@[simp] theorem kept_beginHandoff (s : State) (a : Advance) (c : Controller) (sm im : ModuleId) :
    (beginHandoff s a c sm im).kept = c.kept := by
  unfold beginHandoff
  refine (kept_modModule _ _ ?_).trans ((kept_modModule _ _ ?_).trans (kept_clearRects _)) <;> exact fun _ => rfl

@[simp] theorem kept_enterFade (c : Controller) (sm im : ModuleId) (g : Nat) (rx ry : Int) (u : Bool) :
    (enterFade c sm im g rx ry u).kept = c.kept := by
  unfold enterFade
  refine (kept_modModule _ _ ?_).trans (kept_clearRects _)
  exact fun _ => rfl

@[simp] theorem kept_completeFade (a : Advance) (x : Staged) (sm im : ModuleId) (r : Nat) :
    (completeFade a x sm im r).ctl.kept = x.ctl.kept :=
  (kept_modModule _ _ (kept_takeOver _)).trans ((kept_modModule _ _ kept_unity).trans (kept_settle _ _))

@[simp] theorem kept_leaveFade (a : Advance) (x : Staged) (sm im : ModuleId) (r : Nat) :
    (leaveFade a x sm im r).ctl.kept = x.ctl.kept :=
  (kept_modModule _ _ kept_unity).trans (kept_settle _ _)

theorem kept_continuePreparation (s : State) (a : Advance) (x : Staged) (sm im : ModuleId) :
    (continuePreparation s a x sm im).ctl.kept = x.ctl.kept := by
  unfold continuePreparation prepareLimit
  dsimp only
  repeat' split
  all_goals first
    | rfl
    | exact kept_enterFade _ _ _ _ _ _ _
    | (refine (kept_modModule _ _ ?_).trans (kept_settle _ _); exact fun _ => rfl)

theorem kept_fadeStep (a : Advance) (x : Staged) (sm im : ModuleId) : (fadeStep a x sm im).ctl.kept = x.ctl.kept := by
  unfold fadeStep
  cases x.ctl.direction
  · dsimp only
    split
    · exact (kept_completeFade _ _ _ _ _).trans rfl
    · rfl
  · dsimp only
    split
    · exact (kept_leaveFade _ _ _ _ _).trans rfl
    · rfl

theorem kept_levelStage (a : Advance) (b : Option ModuleId) (x : Staged) : (levelStage a b x).ctl.kept = x.ctl.kept := by
  unfold levelStage
  split
  · exact kept_fadeStep _ _ _ _
  · split
    · exact kept_modModule _ _ (kept_relax _)
    · rfl
  · rfl
  · rfl

/-- The Controller as the hand-off stage reads it: the candidate determined, the marks cleared (R80, R90). -/
def readied (s : State) (x : Staged) : Staged :=
  { x with ctl := ({ x.ctl with candidate := candidateOf s x.ctl } : Controller).clearMarks }

theorem kept_starvedStage (l : ModuleId → Bool) (a : Advance) (x : Staged) (sm : Option ModuleId) :
    (starvedStage l a x sm).ctl.kept = x.ctl.kept := by
  have otherwise : ∀ c : Option ModuleId,
      (match c with | some m => cut a x m | none => x : Staged).ctl.kept = x.ctl.kept := by
    rintro (_ | m)
    · rfl
    · exact kept_cut _ _ _
  unfold starvedStage
  cases sm with
  | none => exact otherwise _
  | some m =>
    dsimp only
    split
    · exact otherwise _
    · rfl

theorem kept_steadyStage (s : State) (l : ModuleId → Bool) (a : Advance) (x : Staged) (sm : ModuleId) :
    (steadyStage s l a x sm).ctl.kept = x.ctl.kept := by
  unfold steadyStage
  split
  · exact kept_giveWay _ _ _
  · split
    · split
      · exact kept_beginHandoff _ _ _ _ _
      · rfl
    · rfl

theorem kept_preparingStage (s : State) (l : ModuleId → Bool) (a : Advance) (x : Staged) (sm im : ModuleId) :
    (preparingStage s l a x sm im).ctl.kept = x.ctl.kept := by
  unfold preparingStage
  split
  · split
    · exact (kept_giveWay _ _ _).trans rfl
    · exact kept_cut _ _ _
  · split
    · exact kept_settle _ _
    · split
      · exact kept_settle _ _
      · split
        · exact kept_settle _ _
        · split
          · exact kept_continuePreparation _ _ _ _ _
          · exact kept_beginHandoff _ _ _ _ _

theorem kept_fadingStage (l : ModuleId → Bool) (a : Advance) (x : Staged) (sm im : ModuleId) :
    (fadingStage l a x sm im).ctl.kept = x.ctl.kept := by
  unfold fadingStage
  split
  · exact kept_leaveFade _ _ _ _ _
  · split
    · exact kept_completeFade _ _ _ _ _
    · split
      · rfl
      · split <;> rfl

/-- The hand-off stage keeps all but the hand-off itself. -/
theorem kept_handoffStage (s : State) (a : Advance) (x : Staged) :
    (handoffStage s a x).ctl.kept = (readied s x).ctl.kept := by
  unfold handoffStage
  dsimp only
  split
  · exact kept_starvedStage _ a (readied s x) _
  · exact kept_steadyStage s _ a (readied s x) _
  · exact kept_preparingStage s _ a (readied s x) _ _
  · exact kept_fadingStage _ a (readied s x) _ _

/-- The stages after the zoom stage keep all but the hand-off itself: zoom, parameters, requests, force, candidate, and of
each module its calibration and its cleared mark. -/
theorem kept_advanceStages (s : State) (a : Advance) :
    (advanceStages s a).ctl.kept = (readied s (zoomStage a s.ctl.transfer)).ctl.kept :=
  (kept_levelStage _ _ _).trans (kept_handoffStage _ _ _)

/-! ### Every event of an advance carries the pacing view and the output frame number (R86) -/

/-- A raise carries what caused the advance: ZOOM_CLAMPED beside its items, RAMP_DONE with the view as subject, every
other with the view as second subject (R164). -/
def Raise.carries (a : Advance) (r : Raise) : Prop :=
  if r.kind = .zoomClamped then r.advance = some a
  else r.frame = a.frame ∧ (if r.kind = .rampDone then r.subject else r.second) = a.view.val

/-- Every event of a stage so far carries it. -/
def Staged.carry (a : Advance) (x : Staged) : Prop := ∀ r ∈ x.raised, r.carries a

theorem carries_event (a : Advance) {k : EventKind} (h : k ≠ .zoomClamped) (h' : k ≠ .rampDone) (m n : Nat) :
    (a.event k m n).carries a := by
  simp [Raise.carries, Advance.event, h, h']

theorem carry_append {a : Advance} {x : Staged} (h : x.carry a) {r : Raise} (hr : r.carries a) (c : Controller) :
    Staged.carry a { ctl := c, raised := x.raised ++ [r] } := by
  intro y hy
  rcases List.mem_append.1 hy with hy | hy
  · exact h y hy
  · rw [List.mem_singleton.1 hy]
    exact hr

theorem carry_zoomStage (a : Advance) (c : Controller) : (zoomStage a c).carry a := by
  have clamped : (zoomClamp a c.takeRequests).carry a := by
    unfold zoomClamp Staged.carry
    dsimp only
    split <;> simp [Raise.carries]
  unfold zoomStage rampEnd
  dsimp only
  split
  · exact carry_append clamped (by simp [Raise.carries]) _
  · exact clamped

theorem carry_cut {a : Advance} {x : Staged} (h : x.carry a) (m : ModuleId) : (cut a x m).carry a :=
  carry_append h (carries_event a (by decide) (by decide) _ _) _

theorem carry_giveWay {a : Advance} {x : Staged} (h : x.carry a) (m : ModuleId) : (giveWay a x m).carry a := by
  unfold giveWay
  split
  · exact carry_cut h _
  · exact carry_append h (carries_event a (by decide) (by decide) _ _) _

theorem carry_completeFade {a : Advance} {x : Staged} (h : x.carry a) (sm im : ModuleId) (n : Nat) :
    (completeFade a x sm im n).carry a :=
  carry_append h (carries_event a (by decide) (by decide) _ _) _

theorem carry_leaveFade {a : Advance} {x : Staged} (h : x.carry a) (sm im : ModuleId) (n : Nat) :
    (leaveFade a x sm im n).carry a :=
  carry_append h (carries_event a (by decide) (by decide) _ _) _

theorem carry_continuePreparation (s : State) {a : Advance} {x : Staged} (h : x.carry a) (sm im : ModuleId) :
    (continuePreparation s a x sm im).carry a := by
  unfold continuePreparation prepareLimit
  dsimp only
  repeat' split
  all_goals first
    | exact h
    | exact carry_append h (carries_event a (by decide) (by decide) _ _) _

theorem carry_levelStage {a : Advance} {x : Staged} (h : x.carry a) (b : Option ModuleId) : (levelStage a b x).carry a := by
  unfold levelStage fadeStep
  dsimp only
  repeat' split
  all_goals first
    | exact h
    | exact carry_completeFade (x := { x with ctl := _ }) h _ _ _
    | exact carry_leaveFade (x := { x with ctl := _ }) h _ _ _

theorem carry_handoffStage (s : State) {a : Advance} {x : Staged} (h : x.carry a) : (handoffStage s a x).carry a := by
  have h' : (readied s x).carry a := h
  unfold handoffStage
  dsimp only
  change Staged.carry a (match (readied s x).ctl.phase with
    | .starved sm => starvedStage (lost s x.ctl) a (readied s x) sm
    | .steady sm => steadyStage s (lost s x.ctl) a (readied s x) sm
    | .preparing sm im => preparingStage s (lost s x.ctl) a (readied s x) sm im
    | .fading sm im => fadingStage (lost s x.ctl) a (readied s x) sm im)
  split
  · unfold starvedStage
    dsimp only
    repeat' split
    all_goals first
      | exact carry_cut h' _
      | exact h'
  · unfold steadyStage
    repeat' split
    all_goals first
      | exact carry_giveWay h' _
      | exact h'
  · unfold preparingStage
    split
    · split
      · exact carry_giveWay (carry_append h' (carries_event a (by decide) (by decide) _ _) _) _
      · exact carry_cut h' _
    · split
      · exact carry_append h' (carries_event a (by decide) (by decide) _ _) _
      · repeat' split
        all_goals first
          | exact h'
          | exact carry_continuePreparation s h' _ _
  · unfold fadingStage
    split
    · exact carry_leaveFade h' _ _ _
    · split
      · exact carry_completeFade h' _ _ _
      · repeat' split
        all_goals exact h'

/-- Every event an advance raises carries the pacing view and the output frame number (R86). -/
theorem carry_advanceStages (s : State) (a : Advance) : (advanceStages s a).carry a :=
  carry_levelStage (carry_handoffStage s (carry_zoomStage a _)) _

end Sys2Proof.Machine
end

