-- ==== Sys2Proof/Laws/Compose.lean ====
section
/-! SUPPORT. What the opening of an output frame can do, step by step: the count and the advance (R132, steps 1 and 2),
the pins (step 4), the frame that drains (step 6); and the order in which entries of the read table are taken. -/

namespace Sys2Proof.Machine

/-! ### Holders -/

/-- Two holders with one bit in the dump are one holder (R43, R179). -/
theorem index_inj {a b : Holder} (h : a.index = b.index) : a = b := by
  rcases a with ⟨⟨_|_|n, hn⟩, _|_⟩ | _ | ⟨⟨_|_|n, hn⟩⟩ <;>
    rcases b with ⟨⟨_|_|n', hn'⟩, _|_⟩ | _ | ⟨⟨_|_|n', hn'⟩⟩ <;>
      first | rfl | omega | simp [Holder.index] at h

/-- Store `B` is store `A` with holder `x` added to those READY slots that `Q` names, and nothing else changed. -/
def Held (A B : SlotStore) (x : Holder) (Q : ModuleId → Nat → Prop) : Prop :=
  B.closeOrder = A.closeOrder ∧ ∀ m : ModuleId, B.mods[m].ready = A.mods[m].ready
    ∧ B.mods[m].tickets = A.mods[m].tickets
    ∧ B.mods[m].slots.length = A.mods[m].slots.length
    ∧ ∀ (i : Nat) (y y' : Slot), A.mods[m].slots[i]? = some y → B.mods[m].slots[i]? = some y' →
      y'.base = y.base ∧ y'.size = y.size ∧ y'.state = y.state
      ∧ ∀ h : Holder, (h = x ∧ (∃ r, y.state = .ready r) ∧ Q m i → y'.holders[h.index] = true)
        ∧ (¬(h = x ∧ (∃ r, y.state = .ready r) ∧ Q m i) → y'.holders[h.index] = y.holders[h.index])

/-- Nothing added. -/
theorem Held.refl (A : SlotStore) (x : Holder) : Held A A x fun _ _ => False := by
  refine ⟨rfl, fun m => ⟨rfl, rfl, rfl, fun i y y' h h' => ?_⟩⟩
  rw [h] at h'; cases h'
  exact ⟨rfl, rfl, rfl, fun h => ⟨fun hh => hh.2.2.elim, fun _ => rfl⟩⟩

/-- One slot held (R46). -/
theorem held_hold (s : State) (x : Holder) (m : ModuleId) (k : Nat) :
    Held s.store (s.modSlots m (·.hold k x)).store x fun m' i => m' = m ∧ i = k := by
  refine ⟨rfl, fun m' => ?_⟩
  by_cases hm : m = m'
  · subst hm
    have e : (s.modSlots m (·.hold k x)).store.mods[m] = s.store.mods[m].hold k x := by
      simp [State.modSlots]
    rw [e]
    refine ⟨rfl, rfl, by simp [ModuleSlots.hold], fun i y y' h h' => ?_⟩
    simp only [ModuleSlots.hold, List.getElem?_modify, h] at h'
    by_cases hk : k = i
    · subst hk
      simp at h'
      subst h'
      unfold Slot.hold Slot.isReady Slot.record
      rcases hy : y.state with _ | _ | r
      · simp [hy]
      · simp [hy]
      · simp [HolderSet.add]
        intro h
        constructor
        · rintro rfl; simp
        · intro hne
          rw [Vector.getElem_set_ne]
          intro hh; exact hne (index_inj (Fin.ext hh.symm))
    · simp [hk] at h'
      subst h'
      exact ⟨rfl, rfl, rfl, fun h => ⟨fun hh => (hk hh.2.2.2.symm).elim, fun _ => rfl⟩⟩
  · have e : (s.modSlots m (·.hold k x)).store.mods[m'] = s.store.mods[m'] := by
      simp only [State.modSlots]; exact upd_get_ne _ hm _
    rw [e]
    refine ⟨rfl, rfl, rfl, fun i y y' h h' => ?_⟩
    rw [h] at h'; cases h'
    exact ⟨rfl, rfl, rfl, fun h => ⟨fun hh => (hm hh.2.2.1.symm).elim, fun _ => rfl⟩⟩

/-- Two additions of one holder, one after the other. -/
theorem Held.trans {A B C : SlotStore} {x : Holder} {Q Q' : ModuleId → Nat → Prop} (h : Held A B x Q)
    (h' : Held B C x Q') :
    Held A C x fun m i => Q m i ∨ Q' m i := by
  refine ⟨h'.1.trans h.1, fun m => ⟨(h'.2 m).1.trans (h.2 m).1, (h'.2 m).2.1.trans (h.2 m).2.1,
    (h'.2 m).2.2.1.trans (h.2 m).2.2.1, ?_⟩⟩
  intro i y y'' hy hy''
  have hl := (h.2 m).2.2.1
  have : ∃ y', B.mods[m].slots[i]? = some y' := by
    have : i < A.mods[m].slots.length := by
      by_contra hc
      rw [List.getElem?_eq_none (by omega)] at hy; cases hy
    exact ⟨_, List.getElem?_eq_getElem (by omega)⟩
  obtain ⟨y', hy'⟩ := this
  obtain ⟨a1, a2, a3, a4⟩ := (h.2 m).2.2.2 i y y' hy hy'
  obtain ⟨b1, b2, b3, b4⟩ := (h'.2 m).2.2.2 i y' y'' hy' hy''
  refine ⟨b1.trans a1, b2.trans a2, b3.trans a3, fun g => ?_⟩
  have b4 := b4 g; have a4 := a4 g
  rw [a3] at b4
  by_cases q' : g = x ∧ (∃ r, y.state = .ready r) ∧ Q' m i
  · exact ⟨fun _ => b4.1 q', fun hn => (hn ⟨q'.1, q'.2.1, .inr q'.2.2⟩).elim⟩
  · by_cases q : g = x ∧ (∃ r, y.state = .ready r) ∧ Q m i
    · exact ⟨fun _ => (b4.2 q').trans (a4.1 q), fun hn => (hn ⟨q.1, q.2.1, .inl q.2.2⟩).elim⟩
    · refine ⟨fun hn => ?_, fun _ => (b4.2 q').trans (a4.2 q)⟩
      rcases hn.2.2 with hq | hq
      · exact (q ⟨hn.1, hn.2.1, hq⟩).elim
      · exact (q' ⟨hn.1, hn.2.1, hq⟩).elim

/-! ### Pins and parts (R133, R134) -/

/-- The slot an output frame gets of a module: the newest, or while frozen the one under the freeze holder (R133). -/
def State.pick (s : State) (l : Published) (m : ModuleId) : Option Nat :=
  if l.frozen then s.store.mods[m].slotWith .freeze else s.store.mods[m].ready.getLast?

/-- What setting up a module's part does: its slot is held, and the part is made from it. -/
theorem openPart_spec (s : State) (v : ViewId) (l : Published) (x : Holder) (m : Option ModuleId) :
    ∃ st, (s.openPart v l x m).1 = { s with store := st }
      ∧ Held s.store st x (fun m' i => m = some m' ∧ s.pick l m' = some i)
      ∧ (s.openPart v l x m).2 =
        m.map fun k => makePart { s with store := st } s.comp.views[v] l k (s.pick l k) := by
  cases m with
  | none =>
    refine ⟨s.store, rfl, ?_, rfl⟩
    have := Held.refl s.store x
    simpa using this
  | some k =>
    have hp : s.pin l.frozen k x =
        (match s.pick l k with | some i => s.modSlots k (·.hold i x) | none => s, s.pick l k) := by
      unfold State.pin State.pick State.pinNewest State.pinFrozen ModuleSlots.newest
      split
      · split <;> simp_all
      · split <;> simp_all
    cases hk : s.pick l k with
    | none =>
      rw [hk] at hp
      simp only [State.openPart, hp]
      refine ⟨s.store, rfl, ?_, by simp [hk]⟩
      have := Held.refl s.store x
      convert this using 2
      rename_i m'
      funext i
      simp only [Option.some.injEq, eq_iff_iff, iff_false, not_and]
      rintro rfl; simp [hk]
    | some i =>
      rw [hk] at hp
      simp only [State.openPart, hp]
      refine ⟨(s.modSlots k (·.hold i x)).store, rfl, ?_, by simp [hk]; rfl⟩
      have := held_hold s x k i
      convert this using 2
      rename_i m'
      funext j
      simp only [Option.some.injEq, eq_iff_iff]
      constructor
      · rintro ⟨rfl, h⟩; rw [hk] at h; cases h; exact ⟨rfl, rfl⟩
      · rintro ⟨rfl, rfl⟩; exact ⟨rfl, hk⟩

/-- A frame's pins leave the freeze holder where it is. -/
theorem held_freeze {A B : SlotStore} {v : ViewId} {f : FrameName} {Q} (h : Held A B (.frame v f) Q)
    (m : ModuleId) :
    B.mods[m].slotWith .freeze = A.mods[m].slotWith .freeze := by
  obtain ⟨-, -, hl, hs⟩ := h.2 m
  unfold ModuleSlots.slotWith
  have : B.mods[m].slots.map (fun s => HolderSet.has s.holders .freeze)
      = A.mods[m].slots.map (fun s => HolderSet.has s.holders .freeze) := by
    apply List.ext_getElem (by simpa using hl)
    intro i h1 h2
    simp only [List.length_map] at h1 h2
    simp only [List.getElem_map]
    have := ((hs i _ _ (List.getElem?_eq_getElem h2) (List.getElem?_eq_getElem h1)).2.2.2 .freeze).2 (by simp)
    exact this
  have e : ∀ l : List Slot, l.findIdx? (fun s => HolderSet.has s.holders .freeze)
      = (l.map (fun s => HolderSet.has s.holders .freeze)).findIdx? id := by
    intro l; rw [List.findIdx?_map]; rfl
  rw [e, e, this]

/-- So they leave what a later part gets. -/
theorem held_pick {s : State} {st : SlotStore} {v : ViewId} {f : FrameName} {Q}
    (h : Held s.store st (.frame v f) Q) (l : Published) (m : ModuleId) :
    ({ s with store := st } : State).pick l m = s.pick l m := by
  unfold State.pick
  simp only [held_freeze h, (h.2 m).1]

/-! ### The count and the advance (R86, R87, R132) -/

/-- An advance changes the Controller and the Agent alone; frozen, it leaves the Controller too. -/
theorem advance_keeps_rest (S : State) (a : Advance) : ∃ c g, S.advance a = { S with ctl := c, agent := g }
    ∧ c = if S.ctl.frozen = false then (advanceStages S a).ctl.publish else S.ctl := by
  cases hf : S.ctl.frozen
  · have hc := advance_ctl hf a
    obtain ⟨g, hg⟩ := raiseAll_eq { S with ctl := (advanceStages S a).ctl.publish } (advanceStages S a).raised
    rw [advance_eq hf, hg]
    exact ⟨_, _, rfl, by simp⟩
  · exact ⟨S.ctl, S.agent, by unfold State.advance; rw [if_pos hf], by simp⟩

/-- The state with the view's output frame counted (R132, step 1). -/
def State.counted (s : State) (v : ViewId) : State :=
  s.modView v fun w => { w with counter := s.comp.views[v].counter + 1, openedSinceEnable := true }

/-- Steps 1 and 2 of an open change the view's count, the Controller and the Agent. -/
theorem beginOpen_eq (s : State) (v : ViewId) :
    ∃ c g, s.beginOpen v = { s.counted v with ctl := c, agent := g }
      ∧ c = if s.pacingView = some v ∧ s.ctl.frozen = false then
          (advanceStages (s.counted v) { view := v, frame := s.comp.views[v].counter + 1 }).ctl.publish
        else s.ctl := by
  by_cases hp : s.pacingView = some v
  · obtain ⟨c, g, h1, h2⟩ := advance_keeps_rest (s.counted v) { view := v, frame := s.comp.views[v].counter + 1 }
    refine ⟨c, g, (if_pos hp).trans h1, ?_⟩
    have : (s.counted v).ctl = s.ctl := rfl
    simp [h2, this, hp]
  · exact ⟨s.ctl, s.agent, if_neg hp, (if_neg fun h => hp h.1).symm⟩

/-! ### The frame that drains (R130, R135) -/

/-- A record is OPEN. -/
theorem isOpen_iff (w : View) (f : FrameName) : w.isOpen f = true ↔ ∃ o, w.frame f = some o ∧ o.status = .opened := by
  unfold View.isOpen; cases w.frame f <;> simp

/-- No read is in flight on an output frame (R129). -/
theorem inFlight_eq_zero (s : State) (v : ViewId) (f : FrameName) : s.inFlight v f = 0 ↔
    ¬∃ (e : EntryId) (r : ReadEntry), s.comp.table[e].read = some r ∧ r.view = v ∧ r.frame = .record f := by
  unfold State.inFlight
  rw [List.countP_eq_zero]
  constructor
  · rintro h ⟨e, r, h1, h2, h3⟩
    apply h s.comp.table[e] (by simp)
    have h1' : s.comp.table[e.val].read = some r := h1
    simp [TableEntry.readsFrame, h1', h2, h3]
  · intro h x hx
    rw [Vector.mem_toList_iff, Vector.mem_iff_getElem] at hx
    obtain ⟨i, hi, rfl⟩ := hx
    intro hr
    unfold TableEntry.readsFrame at hr
    rcases hq : s.comp.table[i].read with _ | r
    · simp [hq] at hr
    · simp [hq] at hr
      exact h ⟨⟨i, hi⟩, r, hq, hr.1, hr.2⟩

@[simp] theorem View.setFrame_same (w : View) (f : FrameName) (o : Option OutputFrame) :
    (w.setFrame f o).frame f = o := by
  cases f <;> rfl

theorem View.setFrame_ne (w : View) (n f : FrameName) (o : Option OutputFrame) (h : n ≠ f) :
    (w.setFrame n o).frame f = w.frame f := by
  cases n <;> cases f <;> simp_all [View.setFrame, View.frame]

@[simp] theorem View.setFrame_frame (w : View) (f : FrameName) : w.setFrame f (w.frame f) = w := by cases f <;> rfl

@[simp] theorem View.setFrame_setFrame (w : View) (f : FrameName) (o o') :
    (w.setFrame f o).setFrame f o' = w.setFrame f o' := by
  cases f <;> rfl

/-- Step 6 of an open: the frame that was OPEN drains, or closes where no read is in flight on it (R132, R135). -/
theorem drainOld_spec (S : State) (v : ViewId) (old : FrameName) :
    let wasOpen := ∃ o, S.comp.views[v].frame old = some o ∧ o.status = .opened
    let reads := ∃ (e : EntryId) (r : ReadEntry), S.comp.table[e].read = some r ∧ r.view = v ∧ r.frame = .record old
    ∃ kept st, S.drainOld v old =
        { S with
          store := st
          comp := { S.comp with views := S.comp.views.set v (S.comp.views[v].setFrame old kept) } }
      ∧ (¬wasOpen → kept = S.comp.views[v].frame old) ∧ (wasOpen → ¬reads → kept = none)
      ∧ (wasOpen → reads → kept = (S.comp.views[v].frame old).map fun x => { x with status := .draining })
      ∧ (wasOpen ∧ ¬reads → st = (S.unholdAll (.frame v old)).store) ∧ (¬(wasOpen ∧ ¬reads) → st = S.store) := by
  intro wasOpen reads
  by_cases hw : wasOpen
  · have hb := (isOpen_iff _ _).2 hw
    unfold State.drainOld
    rw [if_pos hb]
    unfold State.closeIfDrained
    have hd : (S.modView v fun w => w.setFrame old ((w.frame old).map OutputFrame.drain)).comp.views[v].isDraining old
        = true := by
      obtain ⟨o, h1, h2⟩ := hw
      have h1' : S.comp.views[v.val].frame old = some o := h1
      simp [State.modView, View.isDraining, View.setFrame_same, h1', OutputFrame.drain]
    have hi : (S.modView v fun w => w.setFrame old ((w.frame old).map OutputFrame.drain)).inFlight v old
        = S.inFlight v old := rfl
    rw [hd, hi]
    by_cases hr : reads
    · have : S.inFlight v old ≠ 0 := by rw [Ne, inFlight_eq_zero]; exact fun h => h hr
      refine ⟨_, S.store, ?_, fun h => (h hw).elim, fun _ h => (h hr).elim, fun _ _ => rfl,
        fun h => (h.2 hr).elim, fun _ => rfl⟩
      simp [this]
      rfl
    · have : S.inFlight v old = 0 := (inFlight_eq_zero _ _ _).2 hr
      refine ⟨none, _, ?_, fun h => (h hw).elim, fun _ _ => rfl, fun _ h => (hr h).elim,
        fun _ => rfl, fun h => (h ⟨hw, hr⟩).elim⟩
      simp only [this, beq_self_eq_true, Bool.and_self, if_true]
      simp only [State.closeFrame, State.modView, State.unholdAll, upd]
      congr 2
      simp [View.setFrame_setFrame]
  · have hb : S.comp.views[v].isOpen old = false := by
      rw [← Bool.not_eq_true, isOpen_iff]; exact hw
    refine ⟨_, S.store, ?_, fun _ => rfl, fun h => (hw h).elim,
      fun h => (hw h).elim, fun h => (hw h.1).elim, fun _ => rfl⟩
    unfold State.drainOld
    rw [if_neg (by rw [hb]; decide), View.setFrame_frame]
    simp

/-- A holder removed everywhere leaves each module's slots without it. -/
@[simp] theorem unholdAll_mods (S : State) (x : Holder) (m : ModuleId) :
    (S.unholdAll x).store.mods[m] = (S.store.mods[m]).unhold x := by
  simp [State.unholdAll]

/-! ### Entries in the order of their acceptance (R131, R147) -/

/-- What a place put among places makes of them. -/
theorem mem_insertPlace (p x : Nat × EntryId) (l : List (Nat × EntryId)) : x ∈ insertPlace p l ↔ x = p ∨ x ∈ l := by
  induction l with
  | nil => simp [insertPlace]
  | cons y ys ih => unfold insertPlace; split <;> simp [ih]; tauto

theorem sorted_insertPlace (p : Nat × EntryId) (l : List (Nat × EntryId)) (h : l.Pairwise fun a b => a.1 ≤ b.1) :
    (insertPlace p l).Pairwise fun a b => a.1 ≤ b.1 := by
  induction l with
  | nil => simp [insertPlace]
  | cons y ys ih =>
    obtain ⟨h1, h2⟩ := List.pairwise_cons.1 h
    unfold insertPlace; split
    · rename_i hp
      refine List.pairwise_cons.2 ⟨?_, h⟩
      intro z hz
      rcases List.mem_cons.1 hz with rfl | hz
      · exact hp
      · exact Nat.le_trans hp (h1 z hz)
    · rename_i hp
      refine List.pairwise_cons.2 ⟨?_, ih h2⟩
      intro z hz
      rcases (mem_insertPlace _ _ _).1 hz with rfl | hz
      · omega
      · exact h1 z hz

/-- The entries listed are those whose read passes the test, each under its read's place. -/
theorem mem_entriesWith (s : State) (test : ReadEntry → Bool) (x : Nat × EntryId) :
    x ∈ s.entriesWith test ↔ ∃ r, s.comp.table[x.2].read = some r ∧ test r = true ∧ r.place = x.1 := by
  unfold State.entriesWith
  have : ∀ l : List (Nat × EntryId), x ∈ l.foldr insertPlace [] ↔ x ∈ l := by
    intro l; induction l with
    | nil => simp
    | cons y ys ih => simp [mem_insertPlace, ih]
  rw [this, List.mem_filterMap]
  constructor
  · rintro ⟨e, -, h⟩
    obtain ⟨r, hr, h'⟩ := Option.bind_eq_some_iff.1 h
    split at h'
    · cases h'; exact ⟨r, hr, ‹_›, rfl⟩
    · cases h'
  · rintro ⟨r, hr, ht, hp⟩
    refine ⟨x.2, by generalize x.2 = e; fin_cases e <;> decide, ?_⟩
    rw [hr]; simp [ht, hp]

/-- They stand in the order of acceptance. -/
theorem sorted_entriesWith (s : State) (test : ReadEntry → Bool) : (s.entriesWith test).Pairwise fun a b => a.1 ≤ b.1 := by
  unfold State.entriesWith
  generalize allEntries.filterMap _ = l
  induction l with
  | nil => simp
  | cons y ys ih => exact sorted_insertPlace _ _ ih

/-- So a list of them in strictly rising order is that list. -/
theorem entriesWith_eq (s : State) (test : ReadEntry → Bool) (es : List (Nat × EntryId))
    (h : es.Pairwise fun a b => a.1 < b.1)
    (hm : ∀ x, x ∈ es ↔ ∃ r, s.comp.table[x.2].read = some r ∧ test r = true ∧ r.place = x.1) :
    s.entriesWith test = es := by
  have hnd : (s.entriesWith test).Nodup := by
    unfold State.entriesWith
    have : (allEntries.filterMap fun e =>
        s.comp.table[e].read.bind fun r => if test r then some (r.place, e) else none).Nodup := by
      apply List.Nodup.filterMap
      · intro e e' b h1 h2
        obtain ⟨r, hr, h1⟩ := Option.bind_eq_some_iff.1 h1
        obtain ⟨r', hr', h2⟩ := Option.bind_eq_some_iff.1 h2
        split at h1 <;> simp at h1
        split at h2 <;> simp at h2
        have := congrArg Prod.snd h1; have h3 := congrArg Prod.snd h2
        simp at this h3; rw [this, h3]
      · decide
    revert this
    generalize allEntries.filterMap _ = l
    intro hl
    have : l.foldr insertPlace [] |>.Perm l := by
      clear hl
      induction l with
      | nil => simp
      | cons y ys ih =>
        have one : ∀ l : List (Nat × EntryId), (insertPlace y l).Perm (y :: l) := by
          intro l
          induction l with
          | nil => exact List.Perm.refl _
          | cons z zs ih2 =>
            unfold insertPlace
            split
            · exact List.Perm.refl _
            · exact (List.Perm.cons _ ih2).trans (List.Perm.swap _ _ _)
        exact (one _).trans (ih.cons _)
    exact this.nodup_iff.2 hl
  have hp : (s.entriesWith test).Perm es := by
    rw [List.perm_ext_iff_of_nodup hnd (h.imp (fun h he => by subst he; omega))]
    intro x; rw [mem_entriesWith, hm]
  refine List.Perm.eq_of_pairwise (le := fun a b => a.1 ≤ b.1) ?_ (sorted_entriesWith _ _) (h.imp Nat.le_of_lt) hp
  intro a b ha hb h1 h2
  have e : a.1 = b.1 := by omega
  have ha' := hp.subset ha
  obtain ⟨i, hi, rfl⟩ := List.getElem_of_mem ha'
  obtain ⟨j, hj, rfl⟩ := List.getElem_of_mem hb
  rw [List.pairwise_iff_getElem] at h
  rcases Nat.lt_trichotomy i j with hij | hij | hij
  · have := h i j hi hj hij; omega
  · subst hij; rfl
  · have := h j i hj hi hij; omega

end Sys2Proof.Machine
end

