-- ==== Sys2Proof/Tests/Slice0.lean ====
section
/-! SUPPORT. Own tests: the smoke test of WellFormed, the manual's worked figures, one-step tests of commands, and for every
statement that has hypotheses a state that meets them. Expected values come from the manual's examples; each test names
its section. -/

namespace Sys2Proof.Tests
open Sys2Proof.Machine

/-! ### WellFormed and the table's words -/

/-- A read of `len` bytes by requester 7. -/
def readAt (address : Addr) (len : Nat) : Transaction :=
  { requester := 7, address := address, lenLess1 := BitVec.ofNat 8 (len - 1), access := .read }

/-- 1.1: a transaction that crosses a 4 KiB boundary is ill formed. -/
theorem test_wf_refuses_page_crossing : (readAt 0x80000FF8 16).wf = false := by decide

theorem test_wf_accepts_page_end : (Instr.upstreamTransaction 0 (readAt 0x80000FF0 16)).wf = true := by decide

theorem test_no_word_spells_a_command : decodeTableWord 16 5 = none ∧ State.reset.withFetchWord 16 5 = State.reset :=
  ⟨rfl, rfl⟩

theorem test_reset_integration_wf : Config.resetIntegration.wf = true := by decide

/-! ### Worked figures -/

/-- 1.11: the pixel areas of module 1 and view 1, in pages. -/
theorem test_window_sizes : pixelArea 3000 16000 = 11719 * 4096 ∧ pixelArea 1080 7680 = 2025 * 4096 := by decide

/-- 1.11, event 1: the counted pixels of a 256-byte write at offset 1,193,024 begin at row 74, column 2256, and are 64. -/
theorem test_counted_pixels_row :
    let r : ModuleRecord := { ModuleRecord.reset with width := 4000, height := 3000, stride := 16000 }
    let ps := countedPixels r 1193024 (zeros 256)
    ps.length = 64 ∧ ps.head?.map (fun p => (p.row, p.col)) = some (74, 2256) := by decide +kernel

/-- 4.6: steps at 3.2x and 1.5x. -/
theorem test_steps : stepOf 4000 196608 209715 3840 = 64000 ∧ stepOf 4000 65536 209715 3840 = 21333
    ∧ stepOf 4000 196608 98304 3840 = 136533 ∧ stepClampedOf 4000 196608 209715 3840 = false := by decide +kernel

/-- The parallax table of 4.6. -/
def teleTable : List ParallaxEntry := [{ focus := 200, dx := 80, dy := -40 }, { focus := 600, dx := 120, dy := -72 }]

/-- 4.6: parallax halfway, and halves away from zero. -/
theorem test_parallax : parallax (·.dx) teleTable 400 = 100 ∧ parallax (·.dy) teleTable 400 = -56 := by decide +kernel

theorem test_parallax_rounding :
    let t : List ParallaxEntry := [{ focus := 100, dx := 0, dy := -40 }, { focus := 300, dx := 0, dy := -45 }]
    parallax (·.dy) t 200 = -43 ∧ parallax (·.dy) t 50 = -40 ∧ parallax (·.dy) t 900 = -45 := by decide +kernel

/-- 4.6: the sample coordinates of output pixel (1000, 500), and their split. -/
theorem test_sample_coordinates : sampleCoord 131039232 409600 64000 3840 1000 = 283597
    ∧ sampleCoord 98271232 (-229376) 64000 2160 500 = 238101
    ∧ splitCoord 4000 283597 = { at0 := 1107, at1 := 1108, weight := 205 }
    ∧ splitCoord 3000 238101 = { at0 := 930, at1 := 931, weight := 21 } := by decide +kernel

/-- 4.6: the corners at 1.5x lie outside on both sides, and repeat the edge columns. -/
theorem test_coverage_corners : sampleCoord 131039232 409600 136533 3840 0 = -510259
    ∧ outsideFrame 4000 (-510259) = true ∧ outsideFrame 4000 1537203 = true ∧ outsideFrame 4000 993347 = false
    ∧ splitCoord 4000 (-510259) = { at0 := 0, at1 := 1, weight := 0 } := by decide +kernel

/-- 5.7: the ramp upward, its end, the step downward, the stall. -/
theorem test_zoom_steps : zoomStep 163840 209715 66846 = 167115 ∧ zoomStep 167115 209715 66846 = 170455
    ∧ zoomStep 170455 209715 66846 = 173862 ∧ zoomStep 208000 209715 66846 = 209715
    ∧ zoomStep 209715 163840 66846 = 205605 ∧ zoomStep 16384 20000 65537 = 16385 := by decide +kernel

/-- The wide and tele calibrations of 4.6 and 6.11. -/
def wideCal : Calibration :=
  { scale := 65536, cx := 131039232, cy := 98271232, lo := 65536, hi := 196608, parallax := [] }
def teleCal : Calibration :=
  { scale := 196608, cx := 131039232, cy := 98271232, lo := 196608, hi := 655360, parallax := teleTable }

/-- 6.11: the two rectangles. -/
theorem test_rectangles :
    profileRect 12 4000 203163 3840 2160 wideCal none 0 0
      = { generation := 12, left := 1355, top := 1137, width := 1290, height := 726 }
    ∧ profileRect 12 4000 203163 3840 2160 teleCal (some 400) 0 0
      = { generation := 12, left := 70, top := 408, width := 3871, height := 2177 } := by decide +kernel

/-- 6.11: the levels of a fade of eight. -/
theorem test_fade_levels : [1, 2, 3, 4, 5, 6, 7].map (fadeLevel · 8) = [32, 64, 96, 128, 160, 192, 224] := by decide

/-- 6.11: relaxation from 15565 at steps 1, 15 and 29, and downward from 17000. -/
theorem test_relaxation :
    let at' := fun g0 j =>
      (({ ModuleComp.reset with gain := 15000, relaxStart := g0, relaxStep := j } : ModuleComp).relax 30).gain
    at' 15565 0 = 15592 ∧ at' 15565 14 = 15975 ∧ at' 15565 28 = 16357 ∧ at' 15565 29 = 16384 ∧ at' 17000 0 = 16979 := by
  decide +kernel

/-- 7.6: means, relative gain and scaled means. -/
theorem test_profile_arithmetic : ({ sum := 5400000, count := 14400 } : Bin).mean = some 6000
    ∧ relativeGain { sum := 351000000, count := 921600 } { sum := 3331756800, count := 8294400 } = 15534
    ∧ scaledMean 15534 4208 = 3990 ∧ scaledMean 15534 7360 = 6978 ∧ scaledMean 15534 8416 = 7979 := by decide +kernel

/-- 7.6: the horizontal search and its refinement. -/
theorem test_horizontal_search :
    let side := fun a b c : Nat => (List.replicate 30 (some a) ++ [some b] ++ List.replicate 33 (some c))
    let ms := side 4000 6000 8000
    let mi := side 3990 6978 7979
    normAt ms mi (-1) = some 3756 ∧ normAt ms mi 0 = some 1723 ∧ normAt ms mi 1 = some 5692
      ∧ axisResult ms mi 480 = .ok { shift := 0, frac := -41, edge := false, norm := 1723 }
      ∧ refinement { shift := 0, frac := -41, edge := false, norm := 1723 } 3840 = -629760 := by
  refine ⟨by decide +kernel, by decide +kernel, by decide +kernel, by rfl, by decide +kernel⟩

/-- 7.6: the trailer-based ratio. -/
theorem test_trailer_ratio :
    let f := fun duration gain =>
      ({ frame := 0, start := 0, duration := duration, gain := gain, focus := 0, midpoint := 0, closeOrder := 0
         profile := none } : FrameRecord)
    trailerRatio (some (f 20000 384)) (some (f 16000 512)) = 15360 := by decide +kernel

/-- 8.10: interpolation, gain and blend of the worked pixel. -/
theorem test_worked_pixel : bilinear 400 420 380 460 205 21 = 418 ∧ bilinear 500 504 498 510 205 21 = 504
    ∧ applyGain 418 15565 = 397 ∧ applyGain 405 16384 = 405 ∧ blend 405 397 96 = 402 ∧ blend 506 504 96 = 505
    ∧ blend 405 397 128 = 401 := by decide +kernel

/-- The parts of 8.10, by module, slot, base, gain, offsets and step. -/
def phonePart (m : ModuleId) (slot base gain : Nat) (ox oy : Int) (step : Nat) : Part :=
  { module := m, slot := some slot, base := base, frame := 0, midpoint := 0, focus := 400, gain := gain, ox := ox, oy := oy
    step := step, stepClamped := false, coverageFailed := false, cx := 131039232, cy := 98271232, width := 4000
    height := 3000, stride := 16000 }

/-- 9.7: the four fetches of the pixel read, with rows, columns, lengths and addresses. -/
theorem test_fetch_set :
    let w : View := { View.reset with width := 3840, height := 2160, stride := 15360 }
    let o : OutputFrame :=
      { status := .opened, number := 0, latched := Controller.reset.published
        serving := some (phonePart 1 2 0x90000000 16384 0 0 21333)
        second := some (phonePart 2 0 0x98000000 15565 409600 (-229376) 64000)
        flags := headerFlags Controller.reset.published none none }
    (fetchSet w o 7688192 256).map (fun f => (f.second, f.row, f.col, f.words, f.address)) =
      [(false, 1310, 1708, 22, 0x90000000 + 20966832), (false, 1311, 1708, 22, 0x90000000 + 20982832),
       (true, 930, 1131, 63, 0x98000000 + 14884524), (true, 931, 1131, 63, 0x98000000 + 14900524)] := by decide +kernel


/-! ### States for the witnesses -/

/-- An integration-sized module record: 64 by 64, stride 256, owner 12, enabled. -/
def cameraRecord : ModuleRecord :=
  { configured := true, enabled := true, owner := 12, width := 64, height := 64, stride := 256, staleLimit := 100000
    lastTrailer := 5 }

/-- A frame record with a profile of a generation. -/
def frameOf (order generation : Word) : FrameRecord :=
  { frame := 5, start := 1000, duration := 20000, gain := 512, focus := 400, midpoint := 11000, closeOrder := order
    profile := some (Profile.fresh { generation := generation, left := 0, top := 0, width := 64, height := 64 }) }

/-- Slot `i` of a module, 16384 bytes. -/
def slotOf (m : ModuleId) (i : Nat) (st : SlotState) : Slot :=
  { base := 0x90000000 + 0x1000000 * m.val + 0x10000 * i, size := 16384, state := st, holders := noHolders }

/-- A slot with a holder. -/
def heldBy (x : Holder) (y : Slot) : Slot := { y with holders := HolderSet.add y.holders x }

/-- The window of a module's camera. -/
def cameraWindow (m : ModuleId) : Extent := { start := 0x84000000 + 0x100000 * m.val, size := 20480 }

/-- Puts an enabled module into a state. -/
def camera (m : ModuleId) (capture : Capture) (deadline : Option Time) (slots : List Slot) (ready : List Nat) (s : State) :
    State :=
  { s with
    trackers := s.trackers.set m { record := cameraRecord, capture := capture, deadline := deadline }
    path := { s.path with captureWindows := s.path.captureWindows.set m (.active (cameraWindow m)) }
    store :=
      { s.store with mods := s.store.mods.set m { slots := slots, ready := ready, tickets := Vector.replicate 2 none } } }

/-- The window of a view. -/
def displayWindow : Extent := { start := 0x80100000, size := 20480 }

/-- Puts the enabled view 0, 64 by 64 with stride 256, into a state. -/
def display (a : Option OutputFrame) (s : State) : State :=
  { s with
    path := { s.path with viewWindows := s.path.viewWindows.set 0 (.active displayWindow) }
    comp :=
      { s.comp with
        views := s.comp.views.set 0
          { View.reset with
            configured := true, enabled := true, width := 64, height := 64, stride := 256, timeout := 40
            counter := 3, openedSinceEnable := a.isSome, frameA := a } } }

/-- Module 0 fills its slot 1, slot 0 READY; module 1 is idle with a READY and a FREE slot; view 0 is enabled. -/
def busy : State :=
  display none (camera 0 (.filling 1 none) (some 100000) [slotOf 0 0 (.ready (frameOf 1 0)), slotOf 0 1 .filling] [0]
    (camera 1 .idle (some 100000) [slotOf 1 0 (.ready (frameOf 2 0)), slotOf 1 1 .free] [0] State.reset))

/-- The same with a command waiting. -/
def queued : State := { busy with pending := [.zoomTo 9 1 2000000 66846] }

/-- A command in flight, none of its accesses answered. -/
def flying (op : InFlightOp) (s : State) : State :=
  { s with
    agent := { s.agent with inFlight := some { serial := 0, seq := 41, op := op, progress := op.progress } }, serial := 1 }

/-- An owner's write of bytes. -/
def writeAt (requester : Byte) (address : Addr) (bytes : List Byte) : Transaction :=
  { requester := requester, address := address, lenLess1 := BitVec.ofNat 8 (bytes.length - 1)
    access := .write (payloadOf bytes) }

/-- A trailer's 64 bytes (R173). -/
def trailerBytes (frame start duration gain focus flags : Nat) : List Byte :=
  leBytes 4 frame ++ zeros 4 ++ leBytes 8 start ++ leBytes 4 duration ++ leBytes 2 gain ++ leBytes 2 focus
    ++ leBytes 4 flags ++ zeros 36

/-! ### Witnesses: each meets the hypotheses of the statement it names -/

theorem witness_StepRunsFrontCommand : busy.pending = [] := rfl

theorem witness_EventAndAttentionLawsKept :
    AttentionLaw queued ∧ EventLaw queued ∧ ∃ s', step queued = .next s' :=
  ⟨by unfold AttentionLaw; decide, by unfold EventLaw; decide, _, rfl⟩

theorem witness_GainLawKept : GainLaw queued ∧ ∃ s', step queued = .next s' :=
  ⟨by unfold GainLaw gainOk; decide, _, rfl⟩

theorem witness_HandoffLawKept : HandoffLaw queued ∧ ∃ s', step queued = .next s' :=
  ⟨⟨by unfold HandoffParams.inRange; decide, nofun, by decide, by decide, by decide, rfl, rfl, rfl⟩, _, rfl⟩

theorem witness_ZoomLawKept : ZoomLaw queued ∧ ∃ s', step queued = .next s' :=
  ⟨⟨by unfold Field.inRange; decide, nofun, by decide, by decide, by decide, by decide, by decide, by decide, by decide,
    nofun⟩, _, rfl⟩

theorem witness_SlotLawKept : SlotLaw queued ∧ ∃ s', step queued = .next s' := by
  refine ⟨⟨fun m => ⟨⟨?_, ?_, ?_, ?_, ?_⟩, ?_⟩, nofun⟩, _, rfl⟩
  · revert m; decide
  · revert m; decide
  · revert m; decide
  · intro i h
    fin_cases m
    · cases h; decide
    · cases h
    · cases h
    · cases h
  · revert m; decide
  · revert m; unfold trackerLawful; decide

theorem witness_WindowLawsKept : WindowLaw queued ∧ LayoutLaw queued ∧ ∃ s', step queued = .next s' :=
  ⟨by unfold WindowLaw; decide, ⟨by decide, by decide +kernel, by decide +kernel⟩, _, rfl⟩

/-- An entry of view 0 that fetches from module 0's slot 0. -/
def fetchingRead : ReadEntry :=
  { requester := 7, place := 0, view := 0, kind := .pixel, offset := 4096, len := 4, frame := .record .a, state := .fetching
    outstanding :=
      [{ id := 1, spec := { second := false, module := 0, row := 0, col := 0, words := 2, address := 0x90000000 }
         deadline := 1000 },
       { id := 2, spec := { second := false, module := 0, row := 1, col := 0, words := 2, address := 0x90000100 }
         deadline := 1001 }]
    toIssue := [], source := [] }

/-- An output frame of view 0 that serves module 0 from slot 0. -/
def servingFrame : OutputFrame :=
  { status := .opened, number := 3, latched := { Controller.reset.published with phase := .steady 0 }
    serving := some
      { module := 0, slot := some 0, base := 0x90000000, frame := 5, midpoint := 11000, focus := 400, gain := 16384, ox := 0
        oy := 0, step := 65536, stepClamped := false, coverageFailed := false, cx := 2064384, cy := 2064384, width := 64
        height := 64, stride := 256 }
    second := none, flags := headerFlags { Controller.reset.published with phase := .steady 0 } none none }

/-- View 0 with an OPEN output frame and a read in entry 0. -/
def reading (r : ReadEntry) : State :=
  let s := display (some servingFrame) busy
  { s with
    serial := 3
    path := { s.path with queue := [{ requester := 7, place := 0, answer := none }] }
    comp := { s.comp with table := s.comp.table.set 0 { tag := 14, read := some r } } }

/-- The same with commands waiting. -/
def readingQueued : State :=
  { reading fetchingRead with pending := [.fetchTimeout 1000 0, .memoryAnswer 1001 0 .error] }

/-- A state with commands waiting that has a read in the table, and one that has a command in flight. -/
theorem witness_FetchLawKept :
    (FetchLaw readingQueued ∧ ∃ s', step readingQueued = .next s')
    ∧ ∃ s : State, s.agent.inFlight.isSome = true ∧ ProgressLaw s ∧ ∃ s', step s = .next s' := by
  refine ⟨⟨fun e r h => ?_, _, rfl⟩,
    { flying (.loadSlots 2 0x80010000 2) busy with
      pending := [.loadSlotsEnd 0 0 { which := 1, errs := 0 } (Vector.replicate 64 0)] },
    rfl, fun f h => ?_, _, rfl⟩
  · fin_cases e
    · cases h
      exact ⟨by decide, by decide, by decide, by decide, by decide, by decide, by decide, nofun⟩
    all_goals cases h
  · cases h
    refine ⟨by decide, by decide, fun j x h => ?_, 0, rfl⟩
    rcases j with _ | _ | j <;> cases h

theorem witness_QueueLawKept : QueueLaw readingQueued ∧ ∃ s', step readingQueued = .next s' := by
  refine ⟨fun r e h => ?_, _, rfl⟩
  simp only [readingQueued, reading, List.find?] at h
  split at h <;> cases h
  rfl

/-- A whole cell; then writes that carry offsets 60 to 63, just fail to, and begin at offset 64. -/
theorem witness_CellWriteTakesCommand :
    let x := writeAt 3 0x80000000 (cellBytes 43 (.zoomTo 2000000 66846))
    let part := fun (a : Addr) (n : Nat) => busy.classify (writeAt 3 a (zeros n)) = some .control
      ∧ isWrite (writeAt 3 a (zeros n)) = true ∧ (writeAt 3 a (zeros n)).len = n
    (busy.cfg.wf = true ∧ busy.classify x = some .control ∧ x.address.toNat = busy.cfg.controlPage ∧ x.len = 64
      ∧ isWrite x = true ∧ writeBytes x = cellBytes 43 (.zoomTo 2000000 66846) ∧ busy.path.waiting = [])
    ∧ part 0x8000003C 4 ∧ part 0x8000003C 3 ∧ part 0x8000003D 3 ∧ part 0x80000040 64
    ∧ 0x80000040 - busy.cfg.controlPage = 64 := by decide +kernel

theorem witness_CommandsNotTakenAreReported :
    (cellCommand (.zoomTo 0 42 2000000 66846) = some (42, .zoomTo 2000000 66846)
      ∧ Command.zoomTo 2000000 66846 ≠ .resetAll ∧ (flying (.loadSlots 3 0x80010000 4) busy).agent.inFlight.isSome = true)
    ∧ decodeCell (zeros 64) = none ∧ decodeCell (leBytes 2 23 ++ zeros 62) = none ∧ busy.agent.inFlight = none := by
  decide +kernel

theorem witness_RefusedCommandsChangeNothing :
    (cellCommand (.holdFrame 0 9 2) = some (9, .holdFrame 2) ∧ busy.agent.inFlight = none
      ∧ ((Command.holdFrame 2).immediate (busy.atTime 0)).map (·.2.outcome) = some .noFrame)
    ∧ (cmdHoldFrame 2 busy).2.outcome ≠ .done ∧ (cmdConfigureModule 0 0 0 0 0 0 0 busy).2.outcome ≠ .done
    ∧ (cmdEnableModule 2 busy).2.outcome ≠ .done ∧ (cmdDisableView 2 busy).2.outcome ≠ .done
    ∧ busy.cfg.modules.toNat ≤ (4 : Word).toNat ∧ 1 < (2 : Word).toNat := by
  decide +kernel

theorem witness_EventCommandsTake : busy.agent.inFlight = none := rfl

theorem witness_ResetAllResets : (reading fetchingRead).path.waiting = [] := rfl

/-- A window that passes, one that ends a byte after the carve-out, one over a window, one over the control page, and
one over a slot; the check names what it hit. -/
theorem witness_WindowCheckIsExact :
    let check := fun start size : Nat => (busy.windowRefusal 2 (some 2) { start := start, size := size }).map fun r =>
      [r.outcome.number, r.d0, r.d1, r.d2]
    0 < (cameraWindow 2).size ∧ check (cameraWindow 2).start (cameraWindow 2).size = none
      ∧ check 0x9FFFF000 4096 = none ∧ check 0x9FFFF000 4097 = some [8, 2, 0, 0]
      ∧ check 0x84004FFF 1 = some [7, 2, 0, 0] ∧ check 0x80100000 20480 = some [7, 2, 0, 4]
      ∧ check 0x80000FFF 1 = some [7, 2, 1, 0] ∧ check 0x91010000 1 = some [7, 2, 2, 9]
      ∧ check 0x80000000 0x20000000 = some [7, 2, 0, 0] := by decide +kernel

/-- The bounds of every range at once: the least and the greatest record; then each refusal of R34 at the bound of its
check, in the order of the checks. -/
theorem witness_ConfigureModuleTakes :
    let ok := fun (m owner width height stride limit : Nat) (start : Addr) (i : ModuleId) =>
      moduleArg busy.cfg (word m) = some i ∧ owner ≤ 255 ∧ 64 ≤ width ∧ width ≤ 8192 ∧ 64 ≤ height ∧ height ≤ 6144
        ∧ stride % 64 = 0 ∧ 4 * width ≤ stride ∧ stride ≤ 32768 ∧ 1000 ≤ limit ∧ limit ≤ 1000000
        ∧ busy.trackers[i].record.enabled = false
        ∧ busy.windowRefusal i.val (some i)
            { start := start.toNat / 4096 * 4096, size := (height * stride + 4095) / 4096 * 4096 + 4096 } = none
    let reply := fun (m owner width height stride : Word) (start : Addr) (limit : Word) =>
      ((cmdConfigureModule m owner width height stride start limit busy).2.outcome,
        (cmdConfigureModule m owner width height stride start limit busy).2.d0)
    (busy.agent.inFlight = none ∧ ok 2 0 64 64 256 1000 0x86000FFF 2 ∧ ok 3 255 8192 6144 32768 1000000 0x92000000 3)
    ∧ reply 2 256 63 64 256 0x86000000 1000 = (.badArgument, 8) ∧ reply 2 255 63 63 256 0x86000000 1000 = (.badArgument, 12)
    ∧ reply 2 255 8193 64 256 0x86000000 1000 = (.badArgument, 12)
    ∧ reply 2 255 64 63 255 0x86000000 1000 = (.badArgument, 16)
    ∧ reply 2 255 64 6145 256 0x86000000 1000 = (.badArgument, 16)
    ∧ reply 2 255 64 64 192 0x86000000 999 = (.badArgument, 20) ∧ reply 2 255 64 64 257 0x86000000 1000 = (.badArgument, 20)
    ∧ reply 2 255 64 64 32832 0x86000000 1000 = (.badArgument, 20)
    ∧ reply 0 255 64 64 256 0x86000000 999 = (.badArgument, 32)
    ∧ reply 2 255 64 64 256 0x86000000 1000001 = (.badArgument, 32)
    ∧ reply 0 255 64 64 256 0x86000000 1000 = (.inUse, 0) ∧ reply 2 255 64 64 256 0x7FFFF000 1000 = (.outOfCarve, 2)
    ∧ reply 2 255 64 64 256 0x84000000 1000 = (.overlap, 2) := by
  decide +kernel

/-- Module 2 configured and disabled, with a slot list. -/
def resting : State :=
  let s := camera 2 .disabled none [slotOf 2 0 .free, slotOf 2 1 .free] [] busy
  { s with
    trackers := s.trackers.set 2
      { record := { cameraRecord with enabled := false }, capture := .disabled, deadline := none }
    path := { s.path with captureWindows := s.path.captureWindows.set 2 (.configured (cameraWindow 2)) } }

/-- Module 2 ready to be enabled, module 0 enabled, module 3 not configured, module 2 without a slot list. -/
theorem witness_EnableModuleTakes :
    resting.agent.inFlight = none ∧ moduleArg resting.cfg 2 = some 2 ∧ resting.trackers[2].record.enabled = false
      ∧ resting.trackers[2].record.configured = true ∧ resting.store.mods[2].slots ≠ []
      ∧ resting.path.captureWindows[2] = .configured (cameraWindow 2) ∧ moduleArg resting.cfg 0 = some 0
      ∧ resting.trackers[0].record.enabled = true ∧ moduleArg resting.cfg 3 = some 3
      ∧ resting.trackers[3].record.enabled = false ∧ resting.trackers[3].record.configured = false
      ∧ ((resting.modSlots 2 fun _ => .empty).store.mods[2].slots = []) := by decide +kernel

/-- Module 1 serving, module 0 with its READY slot held. -/
def serving1 : State :=
  let s := camera 0 (.filling 1 none) (some 100000)
    [heldBy .freeze (slotOf 0 0 (.ready (frameOf 1 0))), slotOf 0 1 .filling] [0] resting
  { s with ctl := { s.ctl with phase := .steady 1 } }

theorem witness_DisableModuleTakes :
    (resting.agent.inFlight = none ∧ moduleArg resting.cfg 1 = some 1 ∧ resting.trackers[1].record.enabled = true
      ∧ resting.ctl.phase.serving ≠ some 1 ∧ resting.ctl.phase.incoming ≠ some 1
      ∧ (∀ x ∈ resting.store.mods[1].slots, x.holders = noHolders)
      ∧ resting.path.captureWindows[1] = .active (cameraWindow 1))
    ∧ (serving1.trackers[1].record.enabled = true ∧ serving1.ctl.phase.serving = some 1)
    ∧ (serving1.trackers[0].record.enabled = true ∧ ∃ x ∈ serving1.store.mods[0].slots, x.holders ≠ noHolders)
    ∧ resting.trackers[2].record.enabled = false := by decide +kernel

theorem witness_ResetModuleTakes :
    serving1.agent.inFlight = none ∧ moduleArg serving1.cfg 0 = some 0 ∧ serving1.trackers[0].record.enabled = true
      ∧ moduleArg serving1.cfg 2 = some 2 ∧ serving1.trackers[2].record.enabled = false := by decide +kernel

/-- At the bounds: 2 and 8 entries, a buffer at the first byte and one that ends with the carve-out; then the refusals at
the bounds of their checks: 1 and 9 entries, module 3 not configured, module 0 enabled, a byte after the carve-out, module
4. -/
theorem witness_TimedCommandsStart :
    let outside := fun (b : Addr) (size : Nat) =>
      b.toNat < resting.cfg.carveBase ∨ resting.cfg.carveBase + resting.cfg.carveSize < b.toNat + size
    (resting.agent.inFlight = none ∧ moduleArg resting.cfg 2 = some 2 ∧ resting.cfg.carveBase ≤ (0x80000000 : Addr).toNat
      ∧ 1 ≤ (1 : Word).toNat ∧ (7 : Word).toNat ≤ 7 ∧ resting.trackers[2].record.configured = true
      ∧ resting.trackers[2].record.enabled = false
      ∧ (0x9FFFFFC0 : Addr).toNat + 8 * ((7 : Word).toNat + 1) ≤ resting.cfg.carveBase + resting.cfg.carveSize
      ∧ resting.store.mods[2].slots ≠ [] ∧ resting.store.mods[3].slots = [] ∧ moduleArg resting.cfg 3 = some 3
      ∧ (0x9FFFFFC0 : Addr).toNat + 32 * resting.store.mods[2].slots.length
          ≤ resting.cfg.carveBase + resting.cfg.carveSize
      ∧ (0x9FFFFFA0 : Addr).toNat + 96 ≤ resting.cfg.carveBase + resting.cfg.carveSize)
    ∧ (¬1 ≤ (0 : Word).toNat ∧ ¬(8 : Word).toNat ≤ 7 ∧ resting.trackers[3].record.configured = false
      ∧ moduleArg resting.cfg 0 = some 0 ∧ resting.trackers[0].record.configured = true
      ∧ resting.trackers[0].record.enabled = true ∧ outside 0x9FFFFFC1 (8 * ((7 : Word).toNat + 1))
      ∧ outside 0x9FFFFFC1 (32 * resting.store.mods[2].slots.length) ∧ outside 0x9FFFFFA1 96 ∧ outside 0x7FFFFFFF 96
      ∧ resting.cfg.modules.toNat ≤ (4 : Word).toNat) := by decide +kernel

/-- A load buffer with two bases. -/
def loadBuffer : Vector Byte 64 := Vector.ofFn fun i =>
  (leBytes 8 0x98000000 ++ leBytes 8 0x98010FFF ++ zeros 48).getD i 0

/-- One answer of two; both, with bases that pass; both, the first base out of the carve-out; both, with equal bases. -/
theorem witness_LoadSlotsEndInstalls :
    let s := flying (.loadSlots 2 0x80010000 2) resting
    let p : Progress := { issued := 2, answers := [none, none] }
    let fresh := fun (a : AccessAnswers 8) (j : Nat) => a.which.getLsbD j && decide (j < p.issued) && p.answers[j]? == some none
    let share := fun x y : Extent => ∃ a, x.contains a = true ∧ y.contains a = true
    let entry := fun b : Nat => Extent.mk (b / 4096 * 4096) 16384
    s.agent.inFlight = some { serial := 0, seq := 41, op := .loadSlots 2 0x80010000 2, progress := p }
      ∧ p.answers.length = 2
      ∧ fresh { which := 1, errs := 2 } 0 = true ∧ fresh { which := 1, errs := 2 } 1 = false
      ∧ fresh { which := 3, errs := 0 } 1 = true
      ∧ (resting.trackers[2].record.height * resting.trackers[2].record.stride + 4095) / 4096 * 4096 = 16384
      ∧ ((List.range 2).map fun j => fieldAt loadBuffer.toList (8 * j) 8) = [0x98000000, 0x98010FFF]
      ∧ (∀ b, b = 0x98000000 ∨ b = 0x98010FFF →
          (∀ a, (entry b).contains a = true → s.cfg.carveBase ≤ a ∧ a < s.cfg.carveBase + s.cfg.carveSize)
          ∧ (∀ x ∈ s.windows, ¬share (entry b) x.2) ∧ ¬share (entry b) { start := s.cfg.controlPage, size := 4096 }
          ∧ ∀ l : ModuleId, l ≠ 2 → ∀ x ∈ s.store.mods[l].slots, ¬share (entry b) x.extent)
      ∧ ¬share (entry 0x98010FFF) (entry 0x98000000)
      ∧ (∃ a, (entry 0x9FFFE000).contains a = true ∧ ¬(s.cfg.carveBase ≤ a ∧ a < s.cfg.carveBase + s.cfg.carveSize))
      ∧ share (entry 0x98000000) (entry 0x98000FFF) := by
  have hit : ∀ x y : Extent, ¬x.overlaps y → ¬∃ a, x.contains a = true ∧ y.contains a = true := by
    intro x y h ⟨a, hx, hy⟩
    simp only [Extent.contains, Extent.overlaps, Bool.and_eq_true, decide_eq_true_eq] at h hx hy
    omega
  refine ⟨rfl, rfl, rfl, rfl, rfl, by decide +kernel, by decide +kernel, ?_, hit _ _ (by decide), ⟨0xA0000000, by decide⟩,
    0x98000000, by decide⟩
  rintro b (rfl | rfl)
  all_goals
    refine ⟨fun a h => ?_, fun x hx => hit _ _ (by revert x; decide +kernel), hit _ _ (by decide +kernel),
      fun l hl x hx => hit _ _ (by revert l x; decide +kernel)⟩
    simp only [Extent.contains, Bool.and_eq_true, decide_eq_true_eq] at h
    have h1 : State.cfg (flying (.loadSlots 2 0x80010000 2) resting) = Config.resetIntegration := rfl
    simp only [h1, Config.resetIntegration]
    omega

/-- One answer of two with one entry issued, and both. -/
theorem witness_DumpSlotsEndReports :
    let s := flying (.dumpSlots 0 0x80010000 (busy.store.mods[0].slots.map dumpEntry)) busy
    let p : Progress := { issued := 0, answers := [none, none] }
    let fresh := fun (a : AccessAnswers 8) (i j : Nat) =>
      a.which.getLsbD j && decide (j < max p.issued (min i 2)) && p.answers[j]? == some none
    s.agent.inFlight.map (·.progress) = some p ∧ ProgressLaw s ∧ (busy.store.mods[0].slots.map dumpEntry).length = 2
      ∧ fresh { which := 3, errs := 0 } 1 0 = true ∧ fresh { which := 3, errs := 0 } 1 1 = false
      ∧ fresh { which := 3, errs := 0 } 2 1 = true := by
  refine ⟨rfl, fun f h => ?_, rfl, rfl, rfl, rfl⟩
  cases h
  refine ⟨by decide, by decide, fun j x h => ?_, 0, rfl⟩
  rcases j with _ | _ | j <;> cases h

/-- A calibration buffer with the tele calibration of 4.6 (R61). -/
def teleBuffer : Vector Byte 96 := Vector.ofFn fun i =>
  (leBytes 4 196608 ++ leBytes 4 131039232 ++ leBytes 4 98271232 ++ leBytes 4 196608 ++ leBytes 4 655360 ++ leBytes 4 2
    ++ zeros 8 ++ (leBytes 2 200 ++ leBytes 2 80 ++ leSigned 2 (-40) ++ zeros 2)
    ++ (leBytes 2 600 ++ leBytes 2 120 ++ leSigned 2 (-72) ++ zeros 2)).getD i 0


/-- Eleven answers of twelve, and all; a buffer that passes, and one that fails. -/
theorem witness_LoadCalibrationEndMakesPending :
    (flying (.loadCalibration 2 0x80010000) resting).agent.inFlight
        = some { serial := 0, seq := 41, op := .loadCalibration 2 0x80010000
                 progress := { issued := 12, answers := List.replicate 12 none } }
      ∧ (0x7FF : BitVec 12).getLsbD 11 = false ∧ (∀ j, j < 12 → (0xFFF : BitVec 12).getLsbD j = true)
      ∧ checkCalibration teleBuffer.toList = .ok teleCal
      ∧ checkCalibration (zeros 96) = .error { outcome := .badArgument, d0 := 0, d1 := 0, d2 := 0 } :=
  ⟨rfl, by decide, by decide, by rfl, by rfl⟩

/-- A buffer that passes; then each check of R61 failing at the bound of its range, in the order of the checks. -/
theorem witness_CalibrationCheckIsExact :
    let buffer := fun (scale lo hi count f0 f1 : Nat) =>
      leBytes 4 scale ++ zeros 8 ++ leBytes 4 lo ++ leBytes 4 hi ++ leBytes 4 count ++ zeros 8 ++ leBytes 2 f0 ++ zeros 6
        ++ leBytes 2 f1 ++ zeros 54
    let fails := fun (b : List Byte) (o : OutcomeCode) (d : Nat) =>
      decide (checkCalibration b = .error { outcome := o, d0 := d, d1 := 0, d2 := 0 }) = true
    (4096 ≤ teleCal.scale ∧ teleCal.lo < teleCal.hi ∧ teleCal.parallax.length = fieldAt teleBuffer.toList 20 4)
    ∧ fails (buffer 4095 16383 16385 2 1022 1023) .badArgument 0
    ∧ fails (buffer 16777216 16384 16385 2 1022 1023) .badArgument 0
    ∧ fails (buffer 4096 16383 4194305 2 1022 1023) .badArgument 12
    ∧ fails (buffer 4096 4194305 16385 2 1022 1023) .badArgument 12
    ∧ fails (buffer 4096 16384 4194305 9 1022 1023) .badArgument 16
    ∧ fails (buffer 4096 16384 16384 9 1022 1023) .badArgument 12
    ∧ fails (buffer 4096 16384 16385 9 1022 1024) .badTable 9
    ∧ fails (buffer 4096 16384 16385 2 1023 1024) .badTable 1
    ∧ fails (buffer 4096 16384 16385 2 1023 1023) .badTable 1 := by
  refine ⟨by decide +kernel, by rfl, by rfl, by rfl, by rfl, by rfl, by rfl, by rfl, by rfl, by rfl⟩

/-- The second access erring after the first is answered, and the second write of a dump whose second entry the event
issues. -/
theorem witness_TimedEndsReportErrors :
    let p : Progress := { issued := 2, answers := [none, none] }
    let a : AccessAnswers 8 := { which := 3, errs := 2 }
    let op : InFlightOp := .dumpSlots 0 0x80010000 (busy.store.mods[0].slots.map dumpEntry)
    (flying (.loadSlots 2 0x80010000 2) resting).agent.inFlight.map (·.progress) = some p
      ∧ (a.which.getLsbD 1 = true ∧ 1 < p.issued ∧ p.answers[1]? = some none ∧ a.errs.getLsbD 1 = true)
      ∧ (∀ i, i < 1 → a.errs.getLsbD i = false)
      ∧ (flying op busy).agent.inFlight.map (·.progress) = some { issued := 0, answers := [none, none] }
      ∧ 1 < max 0 (min 2 p.answers.length) ∧ 1 < (busy.store.mods[0].slots.map dumpEntry).length
      ∧ (flying (.loadCalibration 2 0x80010000) resting).agent.inFlight.map (·.progress.issued) = some 12 := by
  decide +kernel

/-- Both tickets of module 0 taken. -/
def bothTickets : State :=
  { busy with
    store :=
      { busy.store with
        mods := busy.store.mods.set 0
          { busy.store.mods[0] with
            slots := [heldBy (.ticket 0) (heldBy (.ticket 1) (slotOf 0 0 (.ready (frameOf 1 0)))), slotOf 0 1 .filling]
            tickets := Vector.replicate 2 (some 0) } } }

theorem witness_HoldCommandsTake :
    busy.agent.inFlight = none ∧ moduleArg busy.cfg 0 = some 0 ∧ busy.store.mods[0].ready.getLast? = some 0
      ∧ busy.store.mods[0].tickets[(0 : Fin 2)] = none ∧ (∀ j : Fin 2, j < 0 → busy.store.mods[0].tickets[j] ≠ none)
      ∧ moduleArg busy.cfg 2 = some 2 ∧ busy.store.mods[2].ready = []
      ∧ bothTickets.store.mods[0].ready ≠ [] ∧ (∀ k : Fin 2, bothTickets.store.mods[0].tickets[k] ≠ none)
      ∧ bothTickets.store.mods[0].tickets[(1 : Fin 2)] = some 0 ∧ 2 ≤ (2 : Word).toNat
      ∧ busy.store.mods[0].tickets[(1 : Fin 2)] = none ∧ busy.cfg.modules.toNat ≤ (4 : Word).toNat := by decide +kernel

/-- A value for each clause at the bounds of the ranges of R59. -/
theorem witness_SetFieldTakes :
    let ok1 := fun w : Word => 256 ≤ w.toNat ∧ w.toNat ≤ 16384
    let ok2 := fun z : Word => 16384 ≤ z.toNat ∧ z.toNat ≤ 4194304
    busy.agent.inFlight = none ∧ ¬ok1 255 ∧ ok1 256 ∧ ok1 16384 ∧ ¬ok1 16385 ∧ ¬ok2 16383 ∧ ok2 16384 ∧ ok2 4194304
      ∧ ¬ok2 4194305 ∧ ¬(16384 : Word).toNat < (16384 : Word).toNat ∧ (16384 : Word).toNat < (16385 : Word).toNat := by
  decide

theorem witness_ZoomToTakes : busy.agent.inFlight = none ∧ busy.ctl.field.zmin < busy.ctl.field.zmax := by decide

theorem witness_ForceCommandsTake :
    resting.agent.inFlight = none ∧ moduleArg resting.cfg 0 = some 0 ∧ resting.trackers[0].record.enabled = true
      ∧ moduleArg resting.cfg 2 = some 2 ∧ resting.trackers[2].record.enabled = false
      ∧ resting.cfg.modules.toNat ≤ (4 : Word).toNat := by decide +kernel

theorem witness_SetHandoffTakes : busy.agent.inFlight = none := rfl

/-- Module 1 serves, frozen. -/
def frozen1 : State := { serving1 with ctl := { serving1.ctl with frozen := true } }

/-- No pacing view; a slot that the pacing view's OPEN output frame pins; one that only the other enabled view's does; a
module neither pins; FREEZE and THAW, frozen and not. -/
theorem witness_FreezeAndThawTake :
    let part : Part := (servingFrame.serving).getD (phonePart 0 0 0 0 0 0 0)
    let s := display (some servingFrame) busy
    let two : State :=
      { s with
        comp :=
          { s.comp with
            views := s.comp.views.set 1
              { s.comp.views[(0 : ViewId)] with
                frameA := some { servingFrame with serving := some { part with module := 1, slot := some 0 } } } } }
    State.reset.pacingView = none
      ∧ (s.pacingView = some 0 ∧ s.comp.views[(0 : ViewId)].openName = some .a
        ∧ s.comp.views[(0 : ViewId)].frame .a = some servingFrame ∧ servingFrame.serving = some part ∧ part.module = 0
        ∧ part.slot = some 0 ∧ servingFrame.second = none)
      ∧ (two.pacingView = some 0 ∧ two.comp.views[(1 : ViewId)].enabled = true ∧ two.freezeSlot 1 = some 0
        ∧ two.freezeSlot 2 = none)
      ∧ serving1.agent.inFlight = none ∧ serving1.ctl.frozen = false
      ∧ frozen1.agent.inFlight = none ∧ frozen1.ctl.frozen = true := by decide +kernel

/-- The bounds of every range at once; then each refusal of R126 at the bound of its check, in the order of the checks. -/
theorem witness_ConfigureViewTakes :
    let ok := fun (width height stride timeout : Nat) (start : Addr) (v : ViewId) =>
      64 ≤ width ∧ width ≤ 7680 ∧ 64 ≤ height ∧ height ≤ 4320 ∧ stride % 64 = 0 ∧ 4 * width ≤ stride ∧ stride ≤ 32768
        ∧ 1 ≤ timeout ∧ timeout ≤ 255 ∧ State.reset.comp.views[v].enabled = false
        ∧ State.reset.windowRefusal (4 + v.val) none
            { start := start.toNat / 4096 * 4096, size := 4096 + (height * stride + 4095) / 4096 * 4096 } = none
    let reply := fun (v width height stride : Word) (start : Addr) (timeout : Word) =>
      ((cmdConfigureView v width height stride start timeout busy).2.outcome,
        (cmdConfigureView v width height stride start timeout busy).2.d0)
    (State.reset.agent.inFlight = none ∧ ok 64 64 256 1 0x80001000 0 ∧ ok 7680 4320 32768 255 0x80001FFF 1)
    ∧ reply 1 63 63 256 0x82000000 1 = (.badArgument, 8) ∧ reply 1 7681 64 256 0x82000000 1 = (.badArgument, 8)
    ∧ reply 1 64 63 255 0x82000000 1 = (.badArgument, 12) ∧ reply 1 64 4321 256 0x82000000 1 = (.badArgument, 12)
    ∧ reply 1 64 64 192 0x82000000 0 = (.badArgument, 16) ∧ reply 1 64 64 32832 0x82000000 1 = (.badArgument, 16)
    ∧ reply 0 64 64 256 0x82000000 0 = (.badArgument, 28) ∧ reply 1 64 64 256 0x82000000 256 = (.badArgument, 28)
    ∧ reply 0 64 64 256 0x82000000 255 = (.inUse, 0) ∧ reply 1 64 64 256 0x7FFFF000 1 = (.outOfCarve, 5)
    ∧ reply 1 64 64 256 0x80000000 1 = (.overlap, 5) := by
  decide +kernel

/-- View 0 configured and not enabled. -/
def darkView : State :=
  { busy with
    path := { busy.path with viewWindows := busy.path.viewWindows.set 0 (.configured displayWindow) }
    comp := { busy.comp with views := busy.comp.views.set 0 { busy.comp.views[0] with enabled := false } } }

theorem witness_EnableAndDisableViewTake :
    (darkView.agent.inFlight = none ∧ darkView.comp.views[0].enabled = false ∧ darkView.comp.views[0].configured = true
      ∧ darkView.path.viewWindows[0] = .configured displayWindow ∧ darkView.comp.views[1].configured = false
      ∧ darkView.comp.views[1].enabled = false)
    ∧ (busy.agent.inFlight = none ∧ busy.comp.views[0].enabled = true
      ∧ (∀ k : EntryId, busy.comp.table[k].read = none) ∧ busy.path.viewWindows[0] = .active displayWindow)
    ∧ (reading fetchingRead).comp.views[0].enabled = true
    ∧ (reading fetchingRead).comp.table[(0 : EntryId)].read = some fetchingRead ∧ fetchingRead.view = 0 := by
  decide +kernel

/-- A read of the view in every entry of the table. -/
def fullTable : State :=
  let s := display (some servingFrame) busy
  { s with comp := { s.comp with table := Vector.replicate 16 { tag := 1, read := some fetchingRead } } }

theorem witness_StallHoldsThePort :
    fullTable.stalls (readAt 0x80102000 4) = true ∧ fullTable.cfg.carveBase ≤ (0x80102000 : Addr).toNat
      ∧ fullTable.path.waiting ++ [readAt 0x80102000 4] = [readAt 0x80102000 4]
      ∧ (reading fetchingRead).stalls (readAt 0x80102000 4) = false := by decide +kernel

/-- Each refusal: a span out of a slot, a stranger's capture write, a view write, a write into a FILLING and into a held
slot. -/
theorem witness_RefusedTransactions :
    let w := fun a => writeAt 9 a [0, 0, 0, 0]
    let inCarve := fun x : Transaction =>
      serving1.cfg.carveBase ≤ x.address.toNat ∧ x.address.toNat < serving1.cfg.carveBase + serving1.cfg.carveSize
    let crossing := writeAt 9 0x90003FFE [0, 0, 0, 0]
    serving1.path.waiting = [] ∧ inCarve crossing
      ∧ serving1.classAt crossing.address.toNat ≠ serving1.classAt (crossing.address.toNat + crossing.len - 1)
      ∧ isWrite (w 0x84000100) = true ∧ serving1.classify (w 0x84000100) = some (.capture 0)
      ∧ (w 0x84000100).requester ≠ serving1.trackers[0].record.owner
      ∧ serving1.classify (w 0x80100000) = some (.view 0)
      ∧ serving1.classify (w 0x90010000) = some (.slot 0 1)
      ∧ serving1.store.mods[0].slots[1]?.map (·.state) = some .filling
      ∧ serving1.classify (w 0x90000000) = some (.slot 0 0)
      ∧ (serving1.store.mods[0].slots[0]?.map fun y => decide (y.holders ≠ noHolders)) = some true := by decide +kernel

/-- The number of ranges a byte lies in: ACTIVE windows, the control page, slot extents (R6). -/
def ranges (s : State) (a : Nat) : Nat :=
  (allModules.countP fun m => s.path.captureWindows[m].coversActive a)
    + (allViews.countP fun v => s.path.viewWindows[v].coversActive a) + (if (controlExtent s.cfg).contains a then 1 else 0)
    + (allModules.map fun m => s.store.mods[m].slots.countP (·.extent.contains a)).sum

/-- R6: the first and the last byte of each range lie in that range alone and have its class; a byte past a range, and the
bytes of a window that is CONFIGURED, lie in none and are plain; a byte past the carve-out has no class of it. -/
theorem witness_classes :
    let byte := fun a : Nat => (ranges busy a, busy.classAt a)
    let start := (cameraWindow 0).start
    let size := (cameraWindow 0).size
    let resting : State :=
      { busy with path := { busy.path with captureWindows := busy.path.captureWindows.set 0 (.configured (cameraWindow 0)) } }
    (byte start = (1, .capture 0) ∧ byte (start + size - 1) = (1, .capture 0) ∧ byte (start + size) = (0, .plain))
      ∧ (byte 0x80100000 = (1, .view 0) ∧ byte 0x80104FFF = (1, .view 0) ∧ byte 0x80105000 = (0, .plain))
      ∧ (byte 0x80000000 = (1, .control) ∧ byte 0x80000FFF = (1, .control) ∧ byte 0x80001000 = (0, .plain))
      ∧ (byte 0x91000000 = (1, .slot 1 0) ∧ byte 0x91010000 = (1, .slot 1 1))
      ∧ (ranges resting start, resting.classAt start) = (0, .plain)
      ∧ byte 0x9FFFFFFF = (0, .plain) ∧ byte 0xA0000000 = (0, .outside) := by decide +kernel

/-- Plain traffic, the control page, slots, and capture reads at the last pixel word and the first trailer byte. -/
theorem witness_ForwardedTransactions :
    let s := camera 3 .idle none [] [] busy
    s.path.waiting = [] ∧ s.classify (readAt 0x88000000 4) = some .plain ∧ s.classify (readAt 0x80000040 64) = some .control
      ∧ s.classify (writeAt 9 0x91010000 [1]) = some (.slot 1 1)
      ∧ (s.store.mods[1].slots[1]?.map fun y => decide (y.state = .free)) = some true
      ∧ s.classify (writeAt 9 0x91000000 [1]) = some (.slot 1 0)
      ∧ (s.store.mods[1].slots[0]?.map fun y => y.isReady && decide (y.holders = noHolders)) = some true
      ∧ s.classify (readAt 0x84003FFC 4) = some (.capture 0)
      ∧ s.path.captureWindows[0] = .active (cameraWindow 0)
      ∧ 0x84003FFC - (cameraWindow 0).start < s.trackers[0].record.area
      ∧ s.trackers[0].capture.fillSlot.or s.store.mods[0].ready.getLast? = some 1
      ∧ s.classify (readAt 0x84300000 4) = some (.capture 3)
      ∧ s.trackers[3].capture.fillSlot.or s.store.mods[3].ready.getLast? = none
      ∧ s.trackers[0].record.area ≤ 0x84004000 - (cameraWindow 0).start := by decide +kernel

theorem witness_GrantRule :
    let held := heldBy .freeze (slotOf 0 0 (.ready (frameOf 1 0)))
    let loose := slotOf 0 1 (.ready (frameOf 2 0))
    let free : ModuleSlots := { slots := [held, slotOf 0 1 .free], ready := [0], tickets := Vector.replicate 2 none }
    let older : ModuleSlots := { slots := [held, loose], ready := [0, 1], tickets := Vector.replicate 2 none }
    let full : ModuleSlots := { slots := [held, slotOf 0 1 .filling], ready := [0], tickets := Vector.replicate 2 none }
    (free.slots[1]?.map fun y => decide (y.state = .free)) = some true ∧ (∀ y ∈ older.slots, y.state ≠ .free)
      ∧ held.holders ≠ noHolders ∧ loose.holders = noHolders ∧ (∀ y ∈ full.slots, y.state ≠ .free)
      ∧ free.grant = some 1 ∧ older.grant = some 1 ∧ full.grant = none := by decide +kernel

/-- A record of one row of bytes after another; a pixel at the first and the last column of a rectangle, and one past
it. -/
theorem witness_CountedPixelsAreExact :
    let inside := fun x y : Int => 0 ≤ x ∧ x < 64 ∧ 0 ≤ y ∧ y < 64
    let a := Profile.fresh { generation := 0, left := 4, top := 0, width := 64, height := 64 }
    cameraRecord.stride % 64 = 0 ∧ 64 ≤ cameraRecord.width ∧ 4 * cameraRecord.width ≤ cameraRecord.stride
      ∧ inside (4 - a.rect.left) 0 ∧ inside (67 - a.rect.left) 63 ∧ ¬inside (68 - a.rect.left) 0
      ∧ ¬inside (3 - a.rect.left) 0 := by decide

/-- Module 1 DISCARDING, with no slot to grant. -/
def discarding1 : State := camera 1 .discarding none [heldBy .freeze (slotOf 1 0 (.ready (frameOf 2 0)))] [0] busy

/-- A module FILLING, one IDLE with a grant, one IDLE without, one DISCARDING; the last byte of the pixel area. -/
theorem witness_PixelWriteTakes :
    let x := writeAt 12 0x84003FFC [1, 2, 3, 4]
    let x1 := writeAt 12 0x84100000 [1, 2, 3, 4]
    let s := camera 1 .idle none [] [] busy
    busy.path.waiting = [] ∧ busy.classify x = some (.capture 0) ∧ busy.path.captureWindows[0] = .active (cameraWindow 0)
      ∧ isWrite x = true ∧ x.requester = busy.trackers[0].record.owner
      ∧ x.address.toNat - (cameraWindow 0).start < busy.trackers[0].record.area
      ∧ busy.trackers[0].capture = .filling 1 none ∧ busy.store.mods[0].slots[1]?.isSome = true
      ∧ busy.classify x1 = some (.capture 1) ∧ busy.trackers[1].capture = .idle ∧ busy.store.mods[1].grant = some 1
      ∧ s.classify x1 = some (.capture 1) ∧ s.trackers[1].capture = .idle ∧ s.store.mods[1].grant = none
      ∧ discarding1.classify x1 = some (.capture 1) ∧ discarding1.trackers[1].capture = .discarding := by decide +kernel

/-- A good trailer, one with the error flag, one with duration 0; a module FILLING, one IDLE, one DISCARDING. -/
theorem witness_TrailerTakes :
    let x := writeAt 12 0x84004000 (trailerBytes 6 2000 20000 512 400 0)
    let suspect := fun b : List Byte => decide (fieldAt b 24 4 % 2 = 1)
    let invalid := fun b : List Byte => decide (fieldAt b 16 4 = 0 ∨ fieldAt b 20 2 = 0)
    busy.path.waiting = [] ∧ busy.classify x = some (.capture 0) ∧ isWrite x = true
      ∧ x.requester = busy.trackers[0].record.owner ∧ x.len = 64
      ∧ x.address.toNat - (cameraWindow 0).start = busy.trackers[0].record.area
      ∧ (5 : Time).toNat + busy.trackers[0].record.staleLimit < 2 ^ 64
      ∧ suspect (writeBytes x) = false ∧ invalid (writeBytes x) = false
      ∧ suspect (trailerBytes 6 2000 20000 512 400 1) = true ∧ invalid (trailerBytes 6 2000 0 512 400 0) = true
      ∧ busy.trackers[0].capture = .filling 1 none ∧ busy.trackers[1].capture = .idle
      ∧ discarding1.trackers[1].capture = .discarding := by decide +kernel

/-- A short write at the trailer, and a whole one at the next bytes. -/
theorem witness_MalformedTrailerDiscards :
    let x := writeAt 12 0x84004000 (zeros 63)
    let y := writeAt 12 0x84004040 (zeros 64)
    busy.classify x = some (.capture 0) ∧ busy.classify y = some (.capture 0) ∧ isWrite x = true
      ∧ x.requester = busy.trackers[0].record.owner
      ∧ busy.trackers[0].record.area ≤ x.address.toNat - (cameraWindow 0).start
      ∧ ¬(x.len = 64 ∧ x.address.toNat - (cameraWindow 0).start = busy.trackers[0].record.area)
      ∧ ¬(y.len = 64 ∧ y.address.toNat - (cameraWindow 0).start = busy.trackers[0].record.area) := by decide +kernel

/-- A header read that waits, at place 0 in entry 0. -/
def waitingRead : ReadEntry := newRead 7 0 0 .header 0 64 (.awaiting 0) .waitingOpen

/-- Each clause: nothing opened yet, a header read, a header read waiting, an OPEN output frame with a source and one
without; at offsets 0, 64, 4092 and 4096. -/
theorem witness_ViewReadTakes :
    let s := reading waitingRead
    let t := display (some servingFrame) busy
    (busy.path.waiting = [] ∧ busy.classify (readAt 0x80100040 64) = some (.view 0)
      ∧ busy.path.viewWindows[0] = .active displayWindow ∧ isWrite (readAt 0x80100040 64) = false
      ∧ busy.comp.table[(0 : EntryId)].read = none ∧ busy.waitingHeaders 0 = []
      ∧ busy.comp.views[0].openedSinceEnable = false ∧ busy.drainBlocked 0 = false)
    ∧ (s.comp.table[(1 : EntryId)].read = none ∧ (∀ k : EntryId, k < 1 → s.comp.table[k].read ≠ none)
      ∧ s.waitingHeaders 0 = [0])
    ∧ t.waitingHeaders 0 = [] ∧ t.comp.views[0].openedSinceEnable = true ∧ t.comp.views[0].openName = some .a
    ∧ t.comp.views[0].frame .a = some servingFrame ∧ (0x80100FFC : Nat) - displayWindow.start < 4096
    ∧ 4096 ≤ (0x80101000 : Nat) - displayWindow.start
    ∧ fetchSet t.comp.views[(0 : ViewId)] servingFrame 4096 4 ≠ []
    ∧ fetchSet t.comp.views[(0 : ViewId)] { servingFrame with serving := none } 4096 4 = []
    ∧ (0 : Time).toNat + t.comp.views[(0 : ViewId)].timeout < 2 ^ 64 := by decide +kernel

/-- The free record first, then the other one: no frame OPEN before, one without reads, one with a read. A parallax table in
order, and focus codes at its first entry, between, and at its last entry. -/
theorem witness_OpenFrameOpens :
    let status := fun s : State => (s.comp.views[(0 : ViewId)].frame .a).map (·.status)
    let table : List ParallaxEntry := [{ focus := 200, dx := 80, dy := -40 }, { focus := 600, dx := 120, dy := -72 }]
    (status serving1 = none ∧ status (display (some servingFrame) busy) = some .opened
      ∧ (∀ e : EntryId, (display (some servingFrame) busy).comp.table[e].read = none)
      ∧ status (reading fetchingRead) = some .opened
      ∧ (reading fetchingRead).comp.table[(0 : EntryId)].read = some fetchingRead ∧ fetchingRead.frame = .record .a)
    ∧ (status ((display (some servingFrame) busy).openFrame 0) = none
      ∧ status ((reading fetchingRead).openFrame 0) = some .draining)
    ∧ (table.Pairwise (fun x y => x.focus < y.focus) ∧ parallax (·.dy) table 200 = -40 ∧ parallax (·.dy) table 201 = -40
      ∧ parallax (·.dy) table 400 = -56 ∧ parallax (·.dy) table 600 = -72)
    ∧ serving1.pacingView = some 0 ∧ serving1.ctl.frozen = false ∧ frozen1.ctl.frozen = true
      ∧ (serving1.openFrame 0).ctl.published.phase.serving = some 1
      ∧ ((serving1.openFrame 0).store.mods[1].slots[0]?.map fun y => HolderSet.has y.holders (.frame 0 .a)) = some true := by
  decide +kernel

theorem witness_MemoryAnswersAreTaken :
    let d : Downstream := { place := 5, address := 0x88000000, len := 4, bytes := none }
    let w : Downstream := { place := 6, address := 0x88000000, len := 1, bytes := some [1] }
    ([d, w].find? (·.place == 5) = some d ∧ d.bytes = none) ∧ ([d, w].find? (·.place == 6) = some w ∧ w.bytes ≠ none)
      ∧ State.reset.agent.writes[2]?.map (·.answered) = some none := by decide +kernel

/-- The deadline reached at its own microsecond and not one before. -/
theorem witness_LivenessExpiryTakes :
    busy.trackers[0].deadline = some 100000 ∧ (100000 : Time).toNat ≤ (100000 : Time).toNat
      ∧ (99999 : Time).toNat < (100000 : Time).toNat ∧ busy.trackers[0].capture = .filling 1 none
      ∧ (camera 0 .discarding (some 7) [] [] busy).trackers[0].capture = .discarding
      ∧ busy.trackers[1].capture = .idle := by decide +kernel

/-- A preparation from module 1 to module 0, both with profiles of the generation. -/
def preparing10 : State :=
  let s := camera 0 .idle (some 100000) [slotOf 0 0 (.ready (frameOf 1 0))] [0] busy
  { s with ctl := { s.ctl with phase := .preparing 1 0 } }

/-- The context of that pair. -/
def pairContext10 : RegContext :=
  { serving := 1, incoming := 0, generation := 0, quality := 480
    servingProfile := Profile.fresh { generation := 0, left := 0, top := 0, width := 64, height := 64 }
    incomingProfile := Profile.fresh { generation := 0, left := 0, top := 0, width := 64, height := 64 }
    servingFrame := 5, incomingFrame := 5 }

/-- The same, COMPUTING. -/
def computing10 : State := { preparing10 with reg := { preparing10.reg with context := some pairContext10 } }

/-- A success of generation 0, the numbers of 7.6. -/
def okResult : RegResult :=
  { generation := 0, serving := 1, incoming := 0, servingFrame := 5211, incomingFrame := 7731, gRel := 15534
    outcome :=
      .success { shift := 0, frac := -41, edge := false, norm := 1723 } { shift := 0, frac := 0, edge := false, norm := 1400 }
        (-629760) 0 }

/-- A pair that meets the conditions, one of another generation; a Unit that is COMPUTING or has a success at hand;
another module; a module without a frame; a frame without a profile record. -/
theorem witness_PairTestTakes :
    let bare := camera 0 .idle (some 100000) [slotOf 0 0 (.ready { frameOf 1 0 with profile := none })] [0] preparing10
    (preparing10.reg.context = none ∧ preparing10.ctl.phase = .preparing 1 0 ∧ preparing10.reg.last = none
      ∧ preparing10.store.mods[1].newestRecord = some (frameOf 2 0)
      ∧ preparing10.store.mods[0].newestRecord = some (frameOf 1 0)
      ∧ (frameOf 1 0).profile = some (Profile.fresh { generation := 0, left := 0, top := 0, width := 64, height := 64 })
      ∧ preparing10.trackers[1].deadline.isSome = true ∧ preparing10.ctl.mods[0].resetMark = false
      ∧ (preparing10.lookForPair 1).reg.context = some pairContext10
      ∧ (({ preparing10 with ctl := { preparing10.ctl with generation := 1 } } : State).lookForPair 1).reg.context = none
      ∧ computing10.reg.context.isSome = true ∧ (3 : ModuleId) ≠ 1 ∧ (3 : ModuleId) ≠ 0
      ∧ okResult.outcome.failure = none ∧ okResult.generation = preparing10.ctl.generation)
    ∧ (preparing10.modSlots 0 fun _ => .empty).store.mods[0].newestRecord = none
    ∧ bare.ctl.phase = .preparing 1 0 ∧ (bare.store.mods[0].newestRecord.map (·.profile)) = some none := by decide +kernel

/-- The context's generation and another; totals with no pixel and totals with one. -/
theorem witness_RegistrationCompletes :
    computing10.reg.context = some pairContext10 ∧ pairContext10.generation = computing10.ctl.generation
      ∧ pairContext10.generation ≠ (1 : Word) ∧ pairContext10.incomingProfile.total.sum = 0
      ∧ (pairContext10.servingProfile.addPixel { row := 0, col := 0, luma := 1 }).total = { sum := 1, count := 1 } := by
  decide +kernel

/-- The read with a fetch that waits to be issued. -/
def cutRead : ReadEntry :=
  { fetchingRead with
    toIssue := [{ second := false, module := 0, row := 2, col := 0, words := 2, address := 0x90000200 }] }

/-- The first and the last fetch, a fetch that waits, another tag, an unknown fetch; a fetch set of a covered pixel at the
first and the last offset of a row. -/
theorem witness_FetchAnswerTakes :
    let s := reading fetchingRead
    s.comp.table[(0 : EntryId)].read = some fetchingRead ∧ fetchingRead.state = .fetching
      ∧ s.comp.table[(0 : EntryId)].tag = 14 ∧ (fetchingRead.outstanding.find? (·.id == 1)).isSome = true
      ∧ fetchingRead.toIssue = [] ∧ fetchingRead.outstanding.filter (·.id != 1) ≠ []
      ∧ (fetchingRead.outstanding.take 1).filter (·.id != 1) = []
      ∧ (5 : Time).toNat + s.comp.views[fetchingRead.view].timeout < 2 ^ 64
      ∧ s.comp.table[(0 : EntryId)].tag ≠ 13 ∧ fetchingRead.outstanding.find? (·.id == 9) = none
      ∧ s.comp.table[(1 : EntryId)].read = none ∧ waitingRead.state ≠ .fetching
      ∧ (reading waitingRead).comp.table[(0 : EntryId)].read = some waitingRead
      ∧ (reading cutRead).comp.table[(0 : EntryId)].read = some cutRead ∧ cutRead.toIssue.length = 1
      ∧ (cutRead.outstanding.filter (·.id != 1)).length < 64 ∧ cutRead.state = .fetching
      ∧ 0 < s.comp.views[(0 : ViewId)].stride ∧ (servingFrame.serving.bind (·.slot)) = some 0
      ∧ (fetchSet s.comp.views[(0 : ViewId)] servingFrame 4096 4 ≠ [] ∧ 0 / 256 < 64 ∧ 0 % 256 / 4 < 64)
      ∧ (fetchSet s.comp.views[(0 : ViewId)] servingFrame (4096 + 252) 4 ≠ [] ∧ 252 / 256 < 64 ∧ 252 % 256 / 4 < 64) := by
  decide +kernel

/-- The earliest deadline, 1000, reached at its own microsecond and not one before. -/
theorem witness_FetchTimeoutFailsTheEntry :
    (∃ f ∈ fetchingRead.outstanding, f.deadline.toNat ≤ (1000 : Time).toNat
      ∧ (∀ g ∈ fetchingRead.outstanding, f.deadline.toNat ≤ g.deadline.toNat)
      ∧ (∀ g ∈ fetchingRead.outstanding, g.spec.second = f.spec.second → g.spec.module = f.spec.module))
    ∧ (∀ f ∈ fetchingRead.outstanding, (999 : Time).toNat < f.deadline.toNat)
    ∧ fetchingRead.frame = .record .a
    ∧ (reading fetchingRead).comp.views[fetchingRead.view].frame .a = some servingFrame := by decide +kernel

/-- A COMPLETE entry; then, after a read of view 0 left: nothing to do; a DRAINING output frame without reads; one with a
read; a waiting header read that may open; two that open one after the other. -/
theorem witness_ViewReadCompletes :
    let r : ReadEntry := { fetchingRead with state := .complete, outstanding := [] }
    let draining : OutputFrame := { servingFrame with status := .draining }
    let status := fun s : State => (s.comp.views[(0 : ViewId)].frame .a).map (·.status)
    ((reading r).comp.table[(0 : EntryId)].read = some r ∧ r.state = .complete ∧ r.frame = .record .a
      ∧ (reading r).comp.views[r.view].frame .a = some servingFrame)
    ∧ (status (display (some servingFrame) busy) = some .opened ∧ (display (some servingFrame) busy).waitingHeaders 0 = [])
    ∧ (status (display (some draining) busy) = some .draining ∧ (∀ e : EntryId, busy.comp.table[e].read = none)
      ∧ (display (some draining) busy).comp.views[(0 : ViewId)].frame .b = none)
    ∧ (status (display (some draining) (reading fetchingRead)) = some .draining
      ∧ fetchingRead.view = 0 ∧ fetchingRead.frame = .record .a)
    ∧ (reading waitingRead).waitingHeaders 0 = [0] ∧ status (reading waitingRead) = some .opened
    ∧ ((reading waitingRead).openFrame 0).comp.views[(0 : ViewId)].openName = some .b
    ∧ ((reading waitingRead).openFrame 0).comp.table[(0 : EntryId)].read = some waitingRead
    ∧ waitingRead.frame = .awaiting 0 ∧ waitingRead.place = 0
    ∧ servingFrame.second = none
    ∧ ({ servingFrame with second := servingFrame.serving } : OutputFrame).second.isSome = true
    ∧ (let two : State :=
        { reading waitingRead with
          comp :=
            { (reading waitingRead).comp with
              table := (reading waitingRead).comp.table.set 1
                { tag := 1, read := some (newRead 8 1 0 .header 0 64 (.awaiting 1) .waitingOpen) } } }
      let one := two.openHeader 0 0
      two.waitingHeaders 0 = [0, 1] ∧ two.drainBlocked 0 = false
        ∧ (one.waitingHeaders 0 = [1] ∧ one.drainBlocked 0 = false ∧ one.comp.views[(0 : ViewId)].counter = 4)
        ∧ ((two.afterLeave 0).waitingHeaders 0 = [] ∧ (two.afterLeave 0).comp.views[(0 : ViewId)].counter = 5))
    ∧ (let run : SourceRun := { second := false, row := 2, col := 5, words := [7, 8] }
      sourceWord [{ run with row := 1 }, run] false 2 5 = 7 ∧ sourceWord [{ run with row := 1 }, run] false 2 6 = 8) := by
  decide +kernel

/-- The product and the quotient of 5.7, and the stall of 5.7 at the least rate. -/
theorem witness_ZoomStepApproaches :
    let product := fun zq r z : Nat => 2 * 65536 * z ≤ 2 * zq * r + 65536 ∧ 2 * zq * r + 65536 < 2 * 65536 * (z + 1)
    let quotient := fun zq r z : Nat => 2 * r * z ≤ 2 * zq * 65536 + r ∧ 2 * zq * 65536 + r < 2 * r * (z + 1)
    65536 ≤ 66846 ∧ 66846 ≤ 131072 ∧ 163840 < 209715
      ∧ product 163840 66846 167115 ∧ quotient 209715 66846 205605 ∧ product 16384 65537 16384 := by decide

theorem witness_CandidateIsNearest :
    busy.ctl.forced = none ∧ busy.trackers[0].record.enabled = true ∧ busy.trackers[0].deadline.isSome = true
      ∧ busy.ctl.mods[0].barred = false ∧ candidateOf busy busy.ctl = some 0
      ∧ candidateOf busy { busy.ctl with forced := some 1 } = some 1 := by decide +kernel

/-- A forward fade from module 1 to module 0 at step k of 8, forced toward module 0. -/
def fading10 (k : Nat) : State :=
  { preparing10 with
    ctl :=
      { preparing10.ctl with
        phase := .fading 1 0, k := k, alpha := fadeLevel k 8, forced := some 0 } }

/-- The advance of the pacing view's output frame 4. -/
def advance4 : Advance := { view := 0, frame := 4 }

/-- What a clause of R92 to R103 tests: the hand-off state, k, which of the modules 1 and 0 is lost, and the candidate
after the advance. -/
structure Tested where
  phase : Phase
  k : Nat
  lost1 : Bool
  lost0 : Bool
  candidate : Option ModuleId
deriving DecidableEq

/-- The tests of a state. -/
def tested (s : State) : Tested :=
  let lost := fun m : ModuleId => decide (s.trackers[m].deadline = none ∨ s.ctl.mods[m].resetMark = true)
  { phase := s.ctl.phase, k := s.ctl.k, lost1 := lost 1, lost0 := lost 0, candidate := (s.advance advance4).ctl.candidate }

/-- A module made STALE. -/
def stale (m : ModuleId) (s : State) : State := s.modTracker m fun x => { x with deadline := none }

/-- A state in a phase, with no module forced. -/
def inPhase (p : Phase) (s : State) : State := { s with ctl := { s.ctl with phase := p, forced := none } }

/-- A fade: a step and the last step; I lost, S lost; back by a step and to the end. Its limits of k are those of the fade
length 8. -/
theorem witness_FadeStepTakes :
    let back := fun k => inPhase (.fading 0 1) (fading10 k)
    let band := fun s : State => decide
      ((s.advance advance4).ctl.mods[(0 : ModuleId)].calibration.lo ≤ (s.advance advance4).ctl.zq
        ∧ (s.advance advance4).ctl.zq ≤ (s.advance advance4).ctl.mods[(0 : ModuleId)].calibration.hi)
    ((fading10 3).ctl.frozen = false ∧ (fading10 3).ctl.direction = .forward ∧ (fading10 3).ctl.fadeInUse = 8)
    ∧ tested (fading10 6) = ⟨.fading 1 0, 6, false, false, some 0⟩
    ∧ tested (fading10 7) = ⟨.fading 1 0, 7, false, false, some 0⟩
    ∧ tested (stale 0 (fading10 3)) = ⟨.fading 1 0, 3, false, true, none⟩
    ∧ tested (stale 1 (fading10 3)) = ⟨.fading 1 0, 3, true, false, some 0⟩
    ∧ tested (back 2) = ⟨.fading 0 1, 2, false, false, some 0⟩ ∧ band (back 2) = true
    ∧ tested (back 1) = ⟨.fading 0 1, 1, false, false, some 0⟩ := by decide +kernel

/-- STARVED and STEADY: S serves again, a cut, no change; a cut, STARVED, a begin, and relaxation steps below and at the
relaxation length. -/
theorem witness_FadeStepTakes_steady :
    let at' := fun p => inPhase p preparing10
    let relaxing := fun step => (at' (.steady 1)).modCtl fun c =>
      { c with mods := upd c.mods 1 fun m => { m with gain := 15000, relaxStart := 15565, relaxStep := step } }
    tested (at' (.starved (some 1))) = ⟨.starved (some 1), 0, false, false, some 0⟩
    ∧ tested (stale 1 (at' (.starved (some 1)))) = ⟨.starved (some 1), 0, true, false, some 0⟩
    ∧ tested (stale 0 (stale 1 (at' (.starved none)))) = ⟨.starved none, 0, true, true, none⟩
    ∧ tested (stale 1 (at' (.steady 1))) = ⟨.steady 1, 0, true, false, some 0⟩
    ∧ tested (stale 0 (stale 1 (at' (.steady 1)))) = ⟨.steady 1, 0, true, true, none⟩
    ∧ tested ((at' (.steady 1)).modCtl fun c => { c with forced := some 0 }) = ⟨.steady 1, 0, false, false, some 0⟩
    ∧ tested (relaxing 28) = ⟨.steady 1, 0, false, false, some 0⟩
    ∧ ((relaxing 28).advance advance4).ctl.mods[(1 : ModuleId)].gain = 16357
    ∧ ((relaxing 29).advance advance4).ctl.mods[(1 : ModuleId)].gain = 16384
    ∧ (relaxing 29).ctl.params.relax = 30 := by decide +kernel

/-- PREPARING: S lost, both lost, I lost, a withdrawal, a restart toward another module, a result at hand, no result
before and at the preparation limit, and a limit without a frame of I. -/
theorem witness_FadeStepTakes_preparing :
    let toward0 := preparing10.modCtl fun c => { c with forced := some 0 }
    let counted := fun n (s : State) => s.modCtl fun c => { c with prepareCounter := n }
    tested (stale 1 toward0) = ⟨.preparing 1 0, 0, true, false, some 0⟩
    ∧ tested (stale 0 (stale 1 preparing10)) = ⟨.preparing 1 0, 0, true, true, none⟩
    ∧ tested (stale 0 preparing10) = ⟨.preparing 1 0, 0, false, true, some 1⟩
    ∧ tested (preparing10.modCtl fun c => { c with forced := some 1 }) = ⟨.preparing 1 0, 0, false, false, some 1⟩
    ∧ tested (camera 2 .idle (some 9) [] [] (preparing10.modCtl fun c => { c with forced := some 2 }))
        = ⟨.preparing 1 0, 0, false, false, some 2⟩
    ∧ tested toward0 = ⟨.preparing 1 0, 0, false, false, some 0⟩
    ∧ (okResult.outcome.failure = none ∧ okResult.generation = toward0.ctl.generation ∧ toward0.reg.last = none)
    ∧ (((counted 4 toward0).advance advance4).ctl.phase = .preparing 1 0 ∧ toward0.ctl.params.prepare = 6
      ∧ ((counted 5 toward0).advance advance4).ctl.phase = .fading 1 0
      ∧ (toward0.modSlots 0 fun _ => .empty).store.mods[0].newestRecord = none
      ∧ ((counted 5 (toward0.modSlots 0 fun _ => .empty)).advance advance4).ctl.phase = .steady 1) := by decide +kernel

/-- A frozen Controller and one that is not; a pending request within the limits and one above them; a ramp that arrives
and one that does not. -/
theorem witness_AdvanceTakesPendings :
    let request := fun z r : Nat => ({ busy.ctl with pendingZoom := some { target := z, rate := r } } : Controller)
    frozen1.ctl.frozen = true ∧ busy.ctl.frozen = false
      ∧ (({ busy with ctl := request 65536 66846 } : State).advance advance4).ctl.zt = 65536
      ∧ (({ busy with ctl := request 4194304 66846 } : State).advance advance4).ctl.zt = busy.ctl.field.zmax
      ∧ busy.ctl.field.zmax < 4194304
      ∧ (({ busy with ctl := request 4194304 66846 } : State).advance advance4).ctl.rampOpen = true
      ∧ (({ busy with ctl := request 4194304 65536 } : State).advance advance4).ctl.rampOpen = false := by decide +kernel

/-- R76, R86, R164: ZOOM_CLAMPED of an advance holds the clamped zoom and no subjects, and what caused the advance. -/
theorem test_advance_clamp_carries_its_cause :
    let c : Controller := { busy.ctl with pendingZoom := some { target := 4194304, rate := 66846 } }
    (({ busy with ctl := c } : State).advance advance4).agent.events[15].detail =
      { subject := 0, second := 0, frame := word busy.ctl.zq, time := timeLow busy.time, reason := 1
        advance := some { view := 0, frame := 4 } } := by decide +kernel

/-! ### Single steps of the manual's examples -/

/-- The state a command leaves. -/
def after (c : Instr) (s : State) : State :=
  match exec c s with
  | .next s' => s'
  | .fault _ => s
  | .refused _ => s

/-- The bytes of the Agent's last write, and of the last but `k`. -/
def lastWrite (s : State) (k : Nat := 0) : List Byte :=
  (s.agent.writes.reverse[k]?.map (·.bytes)).getD []

/-- The mask of 10.9: COMMAND_DONE and ZOOM_CLAMPED. -/
def masked (s : State) : State := { s with agent := { s.agent with mask := 0xC000 } }

/-- 10.9, 1: a load becomes the command in flight and writes no status. -/
theorem test_load_slots_starts :
    let s := after (.loadSlots 0 41 2 0x80010000 1) (masked resting)
    s.agent.inFlight.map (·.seq) = some 41 ∧ s.agent.writes.length = 3 := by decide +kernel

/-- 10.9, 2: BUSY names LOAD_SLOTS and 41; no clamp event. -/
theorem test_zoom_to_busy :
    let s := after (.zoomTo 0 42 2000000 66846) (flying (.loadSlots 2 0x80010000 2) (masked resting))
    lastWrite s = leBytes 4 42 ++ leBytes 2 11 ++ leBytes 2 1 ++ leBytes 4 5 ++ leBytes 4 41 ++ zeros 48
      ∧ s.agent.writes.length = 4 ∧ s.agent.events[15].flag = false := by decide +kernel

/-- 10.9, 3: COMMAND_DONE with its detail, the line high, the status DONE with the count. -/
theorem test_load_slots_end :
    let s := after (.loadSlotsEnd 0 0 { which := 3, errs := 0 } loadBuffer) (flying (.loadSlots 2 0x80010000 2) (masked resting))
    s.agent.events[14].count = 1
      ∧ s.agent.events[14].detail = { subject := 5, second := 0, frame := 41, time := 0, reason := 0 }
      ∧ s.agent.attention = true ∧ s.agent.inFlight = none ∧ s.store.mods[2].slots.map (·.base) = [0x98000000, 0x98010000]
      ∧ lastWrite s = leBytes 4 41 ++ leBytes 2 5 ++ leBytes 2 0 ++ leBytes 4 2 ++ zeros 52 := by decide +kernel

/-- R161, R50: the first of two answers is progress and no end; with the second, in another event, the list is
installed. -/
theorem test_load_slots_in_two_events :
    let s := after (.loadSlotsEnd 0 0 { which := 2, errs := 0 } loadBuffer) (flying (.loadSlots 2 0x80010000 2) resting)
    let s' := after (.loadSlotsEnd 1 0 { which := 3, errs := 2 } loadBuffer) s
    s.agent.inFlight.map (·.progress) =
        some { issued := 2, answers := [none, some (leBytes 8 0x98010FFF)] }
      ∧ s.store = resting.store ∧ s.agent.writes.length = resting.agent.writes.length
      ∧ s'.agent.inFlight = none ∧ s'.store.mods[2].slots.map (·.base) = [0x98000000, 0x98010000] := by decide +kernel

/-- R13, R157: the cell in two writes: the first carries no trigger bytes and is only staged. -/
theorem test_cell_in_two_writes :
    let cell := cellBytes 43 (.zoomTo 2000000 66846)
    let s := after (.upstreamTransaction 0 (writeAt 3 0x80000000 (cell.take 60))) busy
    let s' := after (.upstreamTransaction 1 (writeAt 3 0x8000003C (cell.drop 60))) s
    s.ctl.pendingZoom = none ∧ s.agent.staging.toList.take 60 = cell.take 60
      ∧ s'.ctl.pendingZoom = some { target := 1966080, rate := 66846 } := by decide +kernel

/-- R171: the snapshot's module field of the last result holds 15 in both halves while there is no result. -/
theorem test_snapshot_without_result : (lastWrite State.reset 1)[39]? = some 255 := by decide +kernel

/-- 10.9, 4: the target clamped to 1966080 and reported; the entry before the snapshot before the status. -/
theorem test_zoom_to_clamps :
    let s := after (.zoomTo 0 43 2000000 66846) (masked resting)
    s.agent.events[15].count = 1 ∧ s.agent.events[15].detail.frame = 1966080
      ∧ s.ctl.pendingZoom = some { target := 1966080, rate := 66846 } ∧ s.agent.attention = true
      ∧ s.agent.writes.map (·.address) = [0x80000080, 0x80000200, 0x80000040, 0x80000170, 0x80000200, 0x80000040]
      ∧ lastWrite s = leBytes 4 43 ++ leBytes 2 11 ++ leBytes 2 0 ++ leBytes 4 1 ++ leBytes 4 1966080 ++ leBytes 4 66846
          ++ zeros 44 := by decide +kernel

/-- 10.9, 5: both kinds cleared, both entries rewritten with zeros, the line low, the detail naming both kinds. -/
theorem test_clear_events :
    let s := after (.clearEvents 0 44 0xC000) (after (.zoomTo 0 43 2000000 66846) (masked resting))
    s.agent.events[15] = .clear ∧ s.agent.attention = false ∧ lastWrite s 1 = zeros 16 ∧ lastWrite s 2 = zeros 16
      ∧ lastWrite s = leBytes 4 44 ++ leBytes 2 20 ++ leBytes 2 0 ++ leBytes 4 0x8000 ++ zeros 52 := by decide +kernel

/-- R166: the new mask sets the line at once. -/
theorem test_set_attention :
    let s := after (.setAttention 0 1 0x8000) (after (.zoomTo 0 43 2000000 66846) resting)
    s.agent.attention = true ∧ s.agent.mask = 0x8000 := by decide +kernel

/-- 1.11, event 1 in small: an owner's pixel write goes to the fill slot at its offset. -/
theorem test_pixel_write_translated :
    let s := after (.upstreamTransaction 0 (writeAt 12 0x84000100 [1, 2, 3, 4])) busy
    s.path.downstream = [{ place := 0, address := 0x90010100, len := 4, bytes := some [1, 2, 3, 4] }] := by decide +kernel

/-- 1.11, event 4: a write into the FILLING slot is refused; WRITE_REFUSED names module, requester and "guard". -/
theorem test_guarded_slot_write :
    let s := after (.upstreamTransaction 0 (writeAt 7 0x90010000 (zeros 64))) busy
    s.path.returned = [{ requester := 7, place := 0, answer := .error }] ∧ s.agent.events[8].detail.subject = 0
      ∧ s.agent.events[8].detail.second = 7 ∧ s.agent.events[8].detail.reason = 2 := by decide +kernel

/-- 2.9, 1: a trailer in two halves discards the frame with the last trailer number; liveness stays. -/
theorem test_short_trailer :
    let s := after (.upstreamTransaction 0 (writeAt 12 0x84004000 (zeros 32))) busy
    s.trackers[0].capture = .idle ∧ s.store.mods[0].slots.map (·.isFree) = [false, true] ∧ s.store.mods[0].ready = [0]
      ∧ s.agent.events[7].detail = { subject := 0, second := 0, frame := 5, time := 0, reason := 1 }
      ∧ s.trackers[0].deadline = some 100000 := by decide +kernel

/-- 2.9, 3: the expiry at the deadline frees the slot and raises MODULE_STALE with the last trailer number. -/
theorem test_expiry :
    let s := after (.livenessExpiry 100000 0) busy
    s.trackers[0].deadline = none ∧ s.trackers[0].capture = .idle ∧ s.store.mods[0].slots.map (·.isFree) = [false, true]
      ∧ s.agent.events[3].detail.frame = 5 ∧ s.store.mods[0].ready = [0] := by decide +kernel

/-- 2.9, 4: a good trailer in IDLE of a STALE module renews liveness, TRAILER_BAD "idle" and MODULE_LIVE. -/
theorem test_late_trailer :
    let s := after (.upstreamTransaction 5121500 (writeAt 12 0x84004000 (trailerBytes 882 5100000 20000 512 400 0)))
      (after (.livenessExpiry 100000 0) busy)
    s.trackers[0].deadline = some 5221500 ∧ s.trackers[0].record.lastTrailer = 882 ∧ s.agent.events[7].detail.reason = 0
      ∧ s.agent.events[7].detail.frame = 882 ∧ s.agent.events[4].flag = true := by decide +kernel

/-- R28, R41: a good trailer closes the frame: tail of the ready list, midpoint, close order. -/
theorem test_good_trailer :
    let s := after (.upstreamTransaction 0 (writeAt 12 0x84004000 (trailerBytes 6 7010100 20000 512 2000 0))) busy
    s.store.mods[0].ready = [0, 1]
      ∧ (s.store.mods[0].newestRecord.map fun r => (r.frame, r.midpoint, r.focus, r.closeOrder)) = some (6, 7020100, 1023, 1) := by
  decide +kernel

/-- 3.10, 4: HOLD_FRAME takes the newest slot with ticket 0; the release gives it back. -/
theorem test_hold_frame :
    let s := after (.holdFrame 0 1 1) busy
    s.store.mods[1].slots.map (fun y => holderBits y.holders) = [32, 0] ∧ s.store.mods[1].tickets[0] = some 0 := by
  decide +kernel

theorem test_release_hold :
    let s := after (.releaseHold 0 2 1 0) (after (.holdFrame 0 1 1) busy)
    s.store.mods[1].slots.map (fun y => holderBits y.holders) = [0, 0] ∧ s.store.mods[1].tickets[0] = none := by
  decide +kernel

/-- 3.10, 5: with no slot FREE the oldest unheld READY slot is recycled and leaves the list. -/
theorem test_recycle :
    let s := after (.upstreamTransaction 0 (writeAt 12 0x84100000 [1, 2, 3, 4]))
      (camera 1 .idle (some 9) [slotOf 1 0 (.ready (frameOf 1 0)), heldBy .freeze (slotOf 1 1 (.ready (frameOf 2 0)))] [0, 1] busy)
    s.trackers[1].capture = .filling 0 none ∧ s.store.mods[1].ready = [1] := by decide +kernel

/-- R132, R178: the header read opens output frame 4 with a cut to module 0, the nearest of equals, and is answered. -/
theorem test_header_read :
    let s := after (.upstreamTransaction 0 (readAt 0x80100000 8)) busy
    s.path.returned = [{ requester := 7, place := 0, answer := .ok (leBytes 4 4 ++ leBytes 4 65536) }]
      ∧ s.ctl.phase = .steady 0 ∧ s.agent.events[0].detail.reason = 0 := by decide +kernel

/-- R143: before the first header read a pixel read is black and VIEW_UNOPENED is raised. -/
theorem test_unopened_read :
    let s := after (.upstreamTransaction 0 (readAt 0x80101000 4)) busy
    s.path.returned = [{ requester := 7, place := 0, answer := .ok [0, 0, 8, 0x20] }] ∧ s.agent.events[11].count = 1 := by
  decide +kernel

/-- 9.7, 2, R152: an error fails the entry, answers the requester and names view and module; the other fetch alone is
withdrawn. -/
theorem test_fetch_error :
    let s := after (.fetchAnswer 9 0 14 1 .error) (reading fetchingRead)
    s.path.returned = [{ requester := 7, place := 0, answer := .error }] ∧ s.comp.table[0].read = none
      ∧ s.agent.events[10].detail = { subject := 0, second := 0, frame := 3, time := 9, reason := 0 }
      ∧ s.comp.withdrawn.map (·.id) = [2] := by decide +kernel

/-- 9.7, 4: an answer with the old tag changes nothing of the new occupant. -/
theorem test_late_fetch :
    let s := after (.fetchAnswer 9 0 13 1 (.data (payloadOf []))) (reading fetchingRead)
    s.comp.table = (reading fetchingRead).comp.table := by decide +kernel

/-- R153: the timeout, reason 1. -/
theorem test_fetch_timeout :
    (after (.fetchTimeout 1000 0) (reading fetchingRead)).agent.events[10].detail.reason = 1
      ∧ (after (.fetchTimeout 999 0) (reading fetchingRead)).agent.events[10].flag = false := by decide +kernel

/-- R17: a memory answer for a forwarded read reaches its requester. -/
theorem test_memory_answer :
    let s := after (.memoryAnswer 0 0 (.data (payloadOf [9, 8, 7, 6, 5])))
      (after (.upstreamTransaction 0 (readAt 0x80000040 4)) busy)
    s.path.returned = [{ requester := 7, place := 0, answer := .ok [9, 8, 7, 6] }] ∧ s.path.queue = [] := by decide +kernel

/-- R106: FREEZE puts the freeze holder on the slot that the pacing view's OPEN output frame pinned. -/
theorem test_freeze :
    let s := after (.freeze 0 1) (display (some servingFrame) busy)
    s.ctl.frozen = true ∧ s.store.mods[0].slots.map (fun y => holderBits y.holders) = [16, 0]
      ∧ s.ctl.published.frozen = true := by decide +kernel

/-- R162: RESET_ALL writes the start record with kind 22 and its sequence word as detail. -/
theorem test_reset_all :
    lastWrite (after (.resetAll 0 99) busy) = leBytes 4 0 ++ leBytes 2 22 ++ leBytes 2 0 ++ leBytes 4 99 ++ zeros 52 := by
  decide +kernel

end Sys2Proof.Tests
end

section
/-! Malformed trailer-page writes (R31): an owner's write in a capture window reaches `State.captureWrite`, and what a
malformed trailer does in each capture state. -/

namespace Sys2Proof.Machine

/-! ### Arrival of an owner's write in a capture window -/

theorem exec_upstreamTransaction (t : Time) (x : Transaction) (s : State) :
    exec (.upstreamTransaction t x) s = .next ((s.atTime t).arrive x) := rfl

/-- A transaction is routed to the port exactly when its first byte lies in the carve-out. -/
theorem routed_iff (s : State) (x : Transaction) :
    s.routed x = true ↔
      s.cfg.carveBase ≤ x.address.toNat ∧ x.address.toNat < s.cfg.carveBase + s.cfg.carveSize := by
  simp [State.routed, insideCarve]

/-- Only reads stall (R18). -/
theorem stalls_of_isWrite {x : Transaction} (h : isWrite x = true) (s : State) : s.stalls x = false := by
  simp [State.stalls, h]

theorem start_of_active {w : Window} {e : Extent} (h : w = .active e) : w.start = e.start := by
  subst h; rfl

/-- A write of class C-m is dealt with by `State.captureWrite` at its offset in the module's window (R8, R9). -/
theorem accept_of_captureWrite {s : State} {x : Transaction} {m : ModuleId} {e : Extent}
    (hc : s.classify x = some (.capture m)) (hw : s.path.captureWindows[m] = .active e) (hx : isWrite x = true) :
    s.accept x = (s.enqueue x.requester).captureWrite m s.serial (x.address.toNat - e.start) x := by
  rw [State.accept, hc, State.acceptClass, if_pos hx, State.enqueue_path_captureWindows, start_of_active hw]

/-- An arriving write of class C-m at an idle port is dealt with at once, and ready answers are returned. -/
theorem exec_of_captureWrite (t : Time) {s : State} {x : Transaction} {m : ModuleId} {e : Extent}
    (hq : s.path.waiting = []) (hlo : s.cfg.carveBase ≤ x.address.toNat)
    (hhi : x.address.toNat < s.cfg.carveBase + s.cfg.carveSize) (hc : s.classify x = some (.capture m))
    (hw : s.path.captureWindows[m] = .active e) (hx : isWrite x = true) :
    exec (.upstreamTransaction t x) s =
      .next (((s.atTime t).enqueue x.requester).captureWrite m s.serial (x.address.toNat - e.start) x).deliver := by
  have hqt : (s.atTime t).path.waiting = [] := hq
  have hr : (s.atTime t).routed x = true := (routed_iff ..).mpr ⟨hlo, hhi⟩
  have hct : (s.atTime t).classify x = some (.capture m) := hc
  rw [exec_upstreamTransaction, arrive_of_free hqt hr (stalls_of_isWrite hx _), accept_of_captureWrite hct hw hx,
    State.atTime_serial]

/-! ### The trailer page -/

/-- The owner's write at or past the trailer page goes to the trailer (R9). -/
theorem captureWrite_of_owner_trailer {s : State} {x : Transaction} {m : ModuleId} {off : Nat} (place : Nat)
    (ho : x.requester = s.trackers[m].record.owner) (ha : s.trackers[m].record.area ≤ off) :
    s.captureWrite m place off x = s.trailerWrite m place off x := by
  rw [State.captureWrite, if_pos ho, if_neg (Nat.not_lt.mpr ha)]

/-- A write that is no whole trailer at the trailer's offset is malformed, and is answered OK (R26, R31). -/
theorem trailerWrite_of_malformed {s : State} {x : Transaction} {m : ModuleId} {off : Nat} (place : Nat)
    (h : ¬(x.len = 64 ∧ off = s.trackers[m].record.area)) :
    s.trailerWrite m place off x = (s.malformed m).answer place (.ok []) := by
  rw [State.trailerWrite, if_neg h]

/-! ### The return of the fill slot -/

theorem returnFill_of_filling {s : State} {m : ModuleId} {i : Nat} {acc : Option Profile}
    (h : s.trackers[m].capture = .filling i acc) : s.returnFill m = s.modSlots m (·.giveBack i) := by
  rw [State.returnFill, h]; rfl

/-- Changing an element to itself changes nothing. -/
theorem upd_id {α : Type} {n : Nat} (v : Vector α n) (i : Fin n) : upd v i (fun a => a) = v :=
  Vector.set_getElem_self i.isLt

theorem modSlots_id (s : State) (m : ModuleId) : s.modSlots m (fun ms => ms) = s := by
  rw [State.modSlots, upd_id]

/-- With no fill slot there is nothing to return. -/
theorem returnFill_of_no_fillSlot {s : State} {m : ModuleId} (h : s.trackers[m].capture.fillSlot = none) :
    s.returnFill m = s := by
  rw [State.returnFill, h]; exact modSlots_id s m

/-! ### A malformed trailer in each capture state (R31) -/

/-- The open frame of a module discarded for a malformed trailer, its slot already returned: IDLE, with TRAILER_BAD. -/
def State.discardMalformed (s : State) (m : ModuleId) : State :=
  (s.setIdle m).trailerBad m s.trackers[m].record.lastTrailer reasonMalformed

theorem malformed_of_open {s : State} {m : ModuleId} (h : s.trackers[m].capture.isOpen = true) :
    s.malformed m = (s.returnFill m).discardMalformed m := by
  rw [State.malformed, if_pos h, State.discardMalformed, State.returnFill_trackers]

theorem malformed_of_filling {s : State} {m : ModuleId} {i : Nat} {acc : Option Profile}
    (h : s.trackers[m].capture = .filling i acc) :
    s.malformed m = (s.modSlots m (·.giveBack i)).discardMalformed m := by
  rw [malformed_of_open (by rw [h]; rfl), returnFill_of_filling h]

theorem malformed_of_discarding {s : State} {m : ModuleId} (h : s.trackers[m].capture = .discarding) :
    s.malformed m = s.discardMalformed m := by
  rw [malformed_of_open (by rw [h]; rfl), returnFill_of_no_fillSlot (by rw [h]; rfl)]

theorem malformed_of_idle {s : State} {m : ModuleId} (h : s.trackers[m].capture = .idle) : s.malformed m = s := by
  rw [State.malformed, h]; rfl

/-- Settles O46: the write reaches `State.malformed`, which is then read off in each capture state. -/
theorem malformedTrailerDiscards : Obligations.MalformedTrailerDiscards := by
  intro t x m e s hq hlo hhi hc hw hx ho ha hm
  let s1 := (s.atTime t).enqueue x.requester
  have hexec : exec (.upstreamTransaction t x) s =
      .next ((s1.malformed m).answer s.serial (.ok [])).deliver := by
    rw [exec_of_captureWrite t hq hlo hhi hc hw hx, captureWrite_of_owner_trailer (s := s1) _ ho ha,
      trailerWrite_of_malformed (s := s1) _ hm]
  refine ⟨fun i acc hf => ?filling, fun hd => ?discarding, fun hi => ?idle⟩
  case filling => rw [hexec, malformed_of_filling (s := s1) hf]; rfl
  case discarding => rw [hexec, malformed_of_discarding (s := s1) hd]; rfl
  case idle => rw [hexec, malformed_of_idle (s := s1) hi]

end Sys2Proof.Machine
end

section
/-! The completion of a registration computation (R121) and its result (R114 to R120): the search over the shifts, the
fraction, and each axis against `AxisFits`. -/

namespace Sys2Proof.Machine

/-! ### Clamps and differences -/

theorem clamp_eq_max_min {a b : Nat} (h : a ≤ b) (v : Nat) : clamp a b v = max a (min b v) := by
  unfold clamp; split_ifs <;> omega

theorem clampInt_eq_max_min {a b : Int} (h : a ≤ b) (v : Int) : clampInt a b v = max a (min b v) := by
  unfold clampInt; split_ifs <;> omega

theorem absDiff_eq_max_sub_min (a b : Nat) : absDiff a b = max a b - min a b := by
  unfold absDiff; split_ifs <;> omega

/-! ### Means, compared bins and norms (R114 to R117) -/

theorem getD_servingMeans (bins : Vector Bin 64) (i : Nat) :
    (servingMeans bins).getD i none = bins[i]?.bind Bin.mean := by
  rw [servingMeans, List.getD_eq_getElem?_getD, List.getElem?_map, Vector.getElem?_toList]
  cases bins[i]? <;> rfl

theorem getD_incomingMeans (gRel : Nat) (bins : Vector Bin 64) (i : Nat) :
    (incomingMeans gRel bins).getD i none = (bins[i]?.bind Bin.mean).map (scaledMean gRel) := by
  rw [incomingMeans, List.getD_eq_getElem?_getD, List.getElem?_map, Vector.getElem?_toList]
  cases bins[i]? <;> rfl

theorem comparedBins_eq (ms mi : List (Option Nat)) (s : Int) :
    comparedBins ms mi s = (List.range 48).filterMap fun j =>
      (ms.getD (j + 8) none).bind fun a =>
        (mi.getD ((j : Int) + 8 + s).toNat none).map fun b => max a b - min a b := by
  rw [comparedBins]
  congr 1
  funext j
  have hshift : shifted (j + 8) s = ((j : Int) + 8 + s).toNat := rfl
  rw [hshift]
  cases ms.getD (j + 8) none with
  | none => rfl
  | some a =>
    cases mi.getD ((j : Int) + 8 + s).toNat none with
    | none => rfl
    | some b => exact congrArg some (absDiff_eq_max_sub_min a b)

theorem normAt_eq (ms mi : List (Option Nat)) (s : Int) :
    normAt ms mi s =
      if 24 ≤ (comparedBins ms mi s).length then
        some ((2 * ((comparedBins ms mi s).sum * 48) + (comparedBins ms mi s).length)
          / (2 * (comparedBins ms mi s).length))
      else none := by
  simp only [normAt, roundHalfUp, ← Nat.not_lt, ite_not]

/-! ### The search for the best shift (R117) -/

section Search

variable {norm : Int → Option Nat} {s : Int} {n : Nat}

/-- The order of preference among shifts of equal norm (R117). -/
def Precedes (s s' : Int) : Prop := s.natAbs < s'.natAbs ∨ s.natAbs = s'.natAbs ∧ s ≤ s'

/-- A norm `n` at `s` that no shift from -8 to +8 beats: each has a greater norm, or the same and a later place. -/
def IsBest (norm : Int → Option Nat) (s : Int) (n : Nat) : Prop :=
  ∀ s' n', -8 ≤ s' → s' ≤ 8 → norm s' = some n' → n < n' ∨ n = n' ∧ Precedes s s'

theorem mem_shiftOrder : s ∈ shiftOrder ↔ -8 ≤ s ∧ s ≤ 8 := by
  simp only [shiftOrder, List.mem_cons, List.not_mem_nil, or_false]; omega

/-- The list of shifts runs in the order of preference. -/
theorem shiftOrder_pairwise : shiftOrder.Pairwise fun s s' => ¬Precedes s' s := by
  unfold shiftOrder Precedes; decide

theorem betterShift_of_none (h : norm s = none) (best : Option (Int × Nat)) : betterShift norm best s = best := by
  simp only [betterShift, h]

/-- A shift takes over from one of greater norm, or from none. -/
theorem betterShift_of_beats (h : norm s = some n) {best : Option (Int × Nat)} (hb : ∀ y ∈ best, n < y.2) :
    betterShift norm best s = some (s, n) := by
  cases best with
  | none => simp only [betterShift, h]
  | some y => simp only [betterShift, h, if_pos (hb y rfl)]

/-- The best so far stays against a shift of no less norm. -/
theorem betterShift_of_le (s' : Int) (h : ∀ n' ∈ norm s', n ≤ n') :
    betterShift norm (some (s, n)) s' = some (s, n) := by
  cases hs : norm s' with
  | none => exact betterShift_of_none hs _
  | some n' => simp only [betterShift, hs, if_neg (Nat.not_lt.mpr (h n' hs))]

/-- A bound below the norms of the best so far and of a shift is one below the better of the two. -/
theorem lt_betterShift {best : Option (Int × Nat)} (hb : ∀ y ∈ best, n < y.2) (h : ∀ n' ∈ norm s, n < n') :
    ∀ y ∈ betterShift norm best s, n < y.2 := by
  cases hs : norm s with
  | none => rwa [betterShift_of_none hs]
  | some n' =>
    cases best with
    | none => rw [betterShift_of_beats hs (by simp)]; simpa using h n' hs
    | some y =>
      simp only [betterShift, hs]
      split_ifs
      · simpa using h n' hs
      · exact hb

theorem bestShift_eq_none (h : ∀ s, -8 ≤ s → s ≤ 8 → norm s = none) : bestShift norm = none := by
  refine List.foldlRecOn (motive := (· = none)) shiftOrder _ rfl fun best hbest s hs => ?_
  obtain ⟨hlo, hhi⟩ := mem_shiftOrder.mp hs
  rw [betterShift_of_none (h s hlo hhi), hbest]

/-- Every shift before the best one has a greater norm and every later one no less, so the search ends with it. -/
theorem bestShift_eq_some (hlo : -8 ≤ s) (hhi : s ≤ 8) (hn : norm s = some n) (hbest : IsBest norm s n) :
    bestShift norm = some (s, n) := by
  obtain ⟨pre, post, hsplit⟩ := List.append_of_mem (mem_shiftOrder.mpr ⟨hlo, hhi⟩)
  have hbeats : ∀ s' ∈ shiftOrder, ∀ n' ∈ norm s', n < n' ∨ n = n' ∧ Precedes s s' := fun s' hs' n' hn' =>
    hbest s' n' (mem_shiftOrder.mp hs').1 (mem_shiftOrder.mp hs').2 hn'
  have horder := shiftOrder_pairwise
  rw [hsplit] at hbeats horder
  have hpre : ∀ s' ∈ pre, ∀ n' ∈ norm s', n < n' := fun s' hs' n' hn' =>
    (hbeats s' (by simp [hs']) n' hn').resolve_right fun ⟨_, hprec⟩ =>
      (List.pairwise_append.mp horder).2.2 s' hs' s (by simp) hprec
  have hpost : ∀ s' ∈ post, ∀ n' ∈ norm s', n ≤ n' := fun s' hs' n' hn' =>
    (hbeats s' (by simp [hs']) n' hn').elim Nat.le_of_lt fun ⟨heq, _⟩ => heq.le
  have hbefore : ∀ y ∈ pre.foldl (betterShift norm) none, n < y.2 :=
    List.foldlRecOn (motive := fun best : Option (Int × Nat) => ∀ y ∈ best, n < y.2) pre _ (by simp)
      fun _ hb s' hs' => lt_betterShift hb (hpre s' hs')
  rw [bestShift, hsplit, List.foldl_append, List.foldl_cons, betterShift_of_beats hn hbefore]
  refine List.foldlRecOn (motive := (· = some (s, n))) post _ rfl fun best hb s' hs' => ?_
  rw [hb, betterShift_of_le s' (hpost s' hs')]

/-! ### The fraction (R118) -/

theorem fraction_of_edge (n : Nat) (h : s = -8 ∨ s = 8 ∨ norm (s - 1) = none ∨ norm (s + 1) = none) :
    fraction norm s n = (0, true) := by
  rw [fraction]
  split_ifs with hend
  · rfl
  · obtain ha | hb := (or_assoc.mpr h).resolve_left hend
    · rw [ha]
    · rw [hb]; cases norm (s - 1) <;> rfl

theorem fraction_of_neighbours (n : Nat) {a b : Nat} (hlo : -8 < s) (hhi : s < 8) (ha : norm (s - 1) = some a)
    (hb : norm (s + 1) = some b) :
    fraction norm s n =
      if (a : Int) - 2 * n + b ≤ 0 then (0, false)
      else (clampInt (-128) 128 (roundHalfAway (128 * ((a : Int) - b)) ((a : Int) - 2 * n + b).toNat), false) := by
  rw [fraction, if_neg (by omega), ha, hb]

end Search

/-! ### The result of one axis (R117, R118) -/

section Axis

variable {ms mi : List (Option Nat)} {s : Int} {n quality : Nat}

theorem axisResult_of_no_norm (h : ∀ s, -8 ≤ s → s ≤ 8 → normAt ms mi s = none) :
    axisResult ms mi quality = .error .tooFewBins := by
  rw [axisResult, bestShift_eq_none h]

theorem axisResult_of_poor (h : bestShift (normAt ms mi) = some (s, n)) (hq : 48 * quality < n) :
    axisResult ms mi quality = .error (.quality n) := by
  rw [axisResult, h]; exact if_pos hq

theorem axisResult_of_good {frac : Int} {edge : Bool} (h : bestShift (normAt ms mi) = some (s, n))
    (hq : n ≤ 48 * quality) (hf : fraction (normAt ms mi) s n = (frac, edge)) :
    axisResult ms mi quality = .ok { shift := s, frac := frac, edge := edge, norm := n } := by
  rw [axisResult, h]
  dsimp only
  rw [if_neg (Nat.not_lt.mpr hq), hf]

end Axis

/-- The result of an axis is what its norms give. -/
theorem axisFits_axisResult (S I : Vector Bin 64) (gRel quality : Nat) :
    AxisFits S I gRel quality (axisResult (servingMeans S) (incomingMeans gRel I) quality) := by
  unfold AxisFits
  intro mean mS mI differences norm
  have hnorm : norm = normAt (servingMeans S) (incomingMeans gRel I) := by
    funext s
    have hdiff : differences s = comparedBins (servingMeans S) (incomingMeans gRel I) s := by
      simp only [comparedBins_eq, getD_servingMeans, getD_incomingMeans]
      rfl
    rw [normAt_eq, ← hdiff]
  clear_value norm
  subst hnorm
  refine ⟨axisResult_of_no_norm, fun s n hlo hhi hn hbest => ?_⟩
  have hs := bestShift_eq_some hlo hhi hn hbest
  refine ⟨axisResult_of_poor hs, fun hq => ⟨fun hedge => ?edge, fun a b hgt hlt ha hb =>
    ⟨fun hden => ?flat, fun hden => ?peak⟩⟩⟩
  case edge => exact axisResult_of_good hs hq (fraction_of_edge n hedge)
  case flat => exact axisResult_of_good hs hq (by rw [fraction_of_neighbours n hgt hlt ha hb, if_pos hden])
  case peak =>
    refine axisResult_of_good hs hq ?_
    rw [fraction_of_neighbours n hgt hlt ha hb, if_neg (Int.not_le.mpr hden), clampInt_eq_max_min (by decide)]

/-! ### The relative gain and the result (R115, R119, R120) -/

theorem relativeGain_of_empty {S I : Bin} (h : I.sum = 0 ∨ S.count = 0 ∨ I.count = 0) : relativeGain S I = 16384 :=
  if_pos h

theorem relativeGain_of_pixels {S I : Bin} (hT : I.sum ≠ 0) (hS : S.count ≠ 0) (hI : I.count ≠ 0) :
    relativeGain S I =
      max 4096 (min 65535 ((2 * (16384 * S.sum * I.count) + S.count * I.sum) / (2 * (S.count * I.sum)))) := by
  rw [relativeGain, if_neg (by simp [hT, hS, hI]), clamp_eq_max_min (by decide), roundHalfUp]

theorem refinement_eq (f : AxisFit) (size : Nat) :
    refinement f size = max (-2147483648) (min 2147483647 ((256 * f.shift + f.frac) * size * 4)) :=
  clampInt_eq_max_min (by decide) _

/-- Both axes are judged with the one gain that the result carries (R115). -/
theorem compute_outcome (c : RegContext) :
    c.compute.outcome =
      regOutcome
        (axisResult (servingMeans c.servingProfile.cols) (incomingMeans c.compute.gRel c.incomingProfile.cols)
          c.quality)
        (axisResult (servingMeans c.servingProfile.rows) (incomingMeans c.compute.gRel c.incomingProfile.rows)
          c.quality)
        c.incomingProfile.rect := rfl

theorem regOutcome_error (e : AxisFailure) (v : Except AxisFailure AxisFit) (rect : Rect) :
    regOutcome (.error e) v rect = .failHorizontal e := rfl

theorem regOutcome_ok_error (f : AxisFit) (e : AxisFailure) (rect : Rect) :
    regOutcome (.ok f) (.error e) rect = .failVertical f e := rfl

theorem regOutcome_ok_ok (f g : AxisFit) (rect : Rect) :
    regOutcome (.ok f) (.ok g) rect = .success f g (refinement f rect.width) (refinement g rect.height) := rfl

/-! ### The completion (R121) -/

theorem exec_registrationCompletion (t : Time) (s : State) :
    exec (.registrationCompletion t) s = .next (s.atTime t).completeRegistration := rfl

theorem completeRegistration_of_context {s : State} {c : RegContext} (h : s.reg.context = some c) :
    s.completeRegistration =
      { s with
        reg :=
          { context := none, last := if c.generation = s.ctl.generation then some c.compute else s.reg.last } } := by
  rw [State.completeRegistration, h]

/-- Settles O53: the completion is read off `State.completeRegistration`, the axes off `axisFits_axisResult`. -/
theorem registrationCompletes : Obligations.RegistrationCompletes := by
  refine ⟨fun t c s hc => ⟨fun hgen => ?kept, fun hgen => ?dropped⟩, fun c => ?result⟩
  case kept =>
    rw [exec_registrationCompletion, completeRegistration_of_context (s := s.atTime t) hc, State.atTime_ctl,
      if_pos hgen]
    rfl
  case dropped =>
    rw [exec_registrationCompletion, completeRegistration_of_context (s := s.atTime t) hc, State.atTime_ctl,
      if_neg hgen, State.atTime_reg]
    rfl
  case result =>
    refine ⟨rfl, rfl, rfl, rfl, rfl, relativeGain_of_empty, relativeGain_of_pixels, _, _,
      axisFits_axisResult .., axisFits_axisResult .., fun e hh => ?horizontal, fun f e hh hv => ?vertical,
      fun f g hh hv => ?success⟩
    case horizontal => rw [compute_outcome, hh, regOutcome_error]
    case vertical => rw [compute_outcome, hh, hv, regOutcome_ok_error]
    case success => rw [compute_outcome, hh, hv, regOutcome_ok_ok, refinement_eq, refinement_eq]

end Sys2Proof.Machine
end

section
/-! Events of the control page (R163, R166): what a raise leaves in the Agent, the line as a statement about the 16 kinds,
and the clear summary after both resets. -/

namespace Sys2Proof.Machine

/-! ### The attention line (R166) -/

theorem mem_allKinds : ∀ n : Fin 16, n ∈ allKinds := by decide

theorem attentionOf_iff (events : Vector EventState 16) (mask : BitVec 16) :
    attentionOf events mask = true ↔ ∃ n : Fin 16, events[n].flag = true ∧ mask.getLsbD n.val = true := by
  simp only [attentionOf, List.any_eq_true, mem_allKinds, true_and, Bool.and_eq_true]

theorem attentionOf_eq_decide (events : Vector EventState 16) (mask : BitVec 16) :
    attentionOf events mask = decide (∃ n : Fin 16, events[n].flag = true ∧ mask.getLsbD n.val = true) :=
  Bool.eq_iff_iff.mpr ((attentionOf_iff events mask).trans (decide_eq_true_iff (p := _)).symm)

/-! ### A raise at the Agent (R163) -/

theorem Agent.writeEvent_of_get {a : Agent} {n : Fin 16} {e : EventState} (g : Config) (h : a.events[n] = e) :
    a.writeEvent g n = a.issue g (eventOffset + 16 * n.val) (eventBytes e) := by
  rw [Agent.writeEvent, h]

/-- The Agent after a raise. The entry is written after the kind has changed, so its bytes are those of the new kind. -/
theorem Agent.raise_eq (a : Agent) (g : Config) (t : Time) (r : Raise) :
    a.raise g t r =
      { a with
        events := a.events.set r.kind.index (a.events[r.kind.index].raised (r.detail t))
        attention := attentionOf (a.events.set r.kind.index (a.events[r.kind.index].raised (r.detail t))) a.mask
        writes := a.writes ++
          [{ address := g.controlPage + eventOffset + 16 * r.kind.index.val
             bytes := eventBytes (a.events[r.kind.index].raised (r.detail t)), answered := none }] } := by
  have hentry : (upd a.events r.kind.index (·.raised (r.detail t)))[r.kind.index]
      = a.events[r.kind.index].raised (r.detail t) := by
    rw [upd_get, if_pos rfl]
  rw [Nat.add_assoc]
  exact congrArg Agent.setLine (Agent.writeEvent_of_get g hentry)

/-! ### The summary after a reset (R162, R168) -/

/-- Every kind is clear, whatever the Memory Path keeps and whatever the start record says. -/
theorem reset_clears_events (s : State) (path : MemoryPath) (kind detail : Nat) (n : Fin 16) :
    ((s.resetBlocks path).writeStart kind detail).agent.events[n] = .clear :=
  Vector.getElem_replicate n.isLt

/-- Settles O16: the three fields a raise changes are read off `Agent.raise`, the line by `attentionOf_eq_decide`, and
both resets go through `reset_clears_events`. -/
theorem raiseRecordsTheEvent : Obligations.RaiseRecordsTheEvent := by
  refine ⟨fun r s => ?raise, fun rs r s => ?order, fun q s n => ⟨?port, ?all⟩⟩
  case raise =>
    rw [State.raise, Agent.raise_eq, attentionOf_eq_decide]
    rfl
  case order => exact raiseAll_append s rs [r]
  case port => exact reset_clears_events ..
  case all => exact reset_clears_events ..

end Sys2Proof.Machine
end

section
/-! The Controller's laws under a pacing advance: every gain in its range (R89), the hand-off state lawful (R88, R91), the
zoom within the limits in use (R73). Each law is stated of the Controller alone and followed through the stages. -/

namespace Sys2Proof.Machine

-- Declaration after declaration: elaborated side by side, those of the joined text need more memory than the check has.
set_option Elab.async false

/-! ### Gains (R89) -/

/-- What the Controller keeps of a module has its gain, and the gain relaxation began from, in range (R89). -/
def ModuleComp.gainsOk (x : ModuleComp) : Prop := gainOk x.gain ∧ gainOk x.relaxStart

/-- Every module's gains are in range (R89). -/
def Controller.gainsOk (c : Controller) : Prop := ∀ m : ModuleId, c.mods[m].gainsOk

theorem gainOk_unity : gainOk 16384 := by unfold gainOk; omega

theorem gainsOk_unity {x : ModuleComp} (h : x.gainsOk) : x.unity.gainsOk := ⟨gainOk_unity, h.2⟩

theorem gainsOk_takeOver {x : ModuleComp} (l : Nat) (h : x.gainsOk) : (x.takeOver l).gainsOk := by
  refine ⟨?_, h.1⟩
  unfold ModuleComp.takeOver
  dsimp only
  split
  · exact gainOk_unity
  · exact h.1

/-- A rounded quotient of a product lies between 0 and the factor where the other factor is at most the divisor. -/
theorem roundHalfUp_mul_le {a j l : Nat} (hl : 0 < l) (hj : j ≤ l) : roundHalfUp (a * j) l ≤ a := by
  unfold roundHalfUp
  have h : a * j ≤ a * l := Nat.mul_le_mul_left a hj
  have hlt : (2 * (a * j) + l) / (2 * l) < a + 1 := by
    rw [Nat.div_lt_iff_lt_mul (by omega)]
    have : (a + 1) * (2 * l) = 2 * (a * l) + 2 * l := by ring
    omega
  omega

/-- A relaxed gain lies between the gain relaxation began from and unity (R103). -/
theorem gainOk_relaxed {g j l : Nat} (h : gainOk g) (hl : 0 < l) (hj : j ≤ l) :
    gainOk ((g : Int) + roundHalfAway ((16384 - (g : Int)) * j) l).toNat := by
  obtain ⟨hlo, hhi⟩ := h
  unfold roundHalfAway
  rcases Nat.le_total g 16384 with hg | hg
  · have e : (16384 - (g : Int)) * j = (((16384 - g) * j : Nat) : Int) := by push_cast [hg]; ring
    have := roundHalfUp_mul_le (a := 16384 - g) hl hj
    rw [e, if_pos (Int.natCast_nonneg _), Int.toNat_natCast]
    unfold gainOk; omega
  · have e : (16384 - (g : Int)) * j = -(((g - 16384) * j : Nat) : Int) := by push_cast [hg]; ring
    have := roundHalfUp_mul_le (a := g - 16384) hl hj
    rw [e, neg_neg, Int.toNat_natCast]
    split_ifs with h0
    · have : (g - 16384) * j = 0 := by omega
      rw [this, Nat.cast_zero, neg_zero, Int.toNat_zero]
      have : roundHalfUp 0 l = 0 := by unfold roundHalfUp; exact Nat.div_eq_of_lt (by omega)
      rw [this]; unfold gainOk; omega
    · unfold gainOk; omega

theorem gainsOk_relax {x : ModuleComp} (l : Nat) (h : x.gainsOk) : (x.relax l).gainsOk := by
  unfold ModuleComp.relax
  split
  · exact h
  · split
    · exact ⟨gainOk_unity, h.2⟩
    · exact ⟨gainOk_relaxed h.2 (by omega) (by omega), h.2⟩

section
variable {c : Controller} {a : Advance} {x : Staged} {s : State}

theorem gainsOk_modModule {m : ModuleId} {f : ModuleComp → ModuleComp} (h : c.gainsOk)
    (hf : ∀ x, x.gainsOk → (f x).gainsOk) : (c.modModule m f).gainsOk := by
  intro k
  rw [Controller.modModule_mods, upd_get]
  split
  · exact hf _ (h m)
  · exact h k

/-- Gains that stay in every module stay in range. -/
theorem gainsOk_of_same {c' : Controller} (h : c.gainsOk)
    (e : ∀ m : ModuleId, c'.mods[m].gain = c.mods[m].gain ∧ c'.mods[m].relaxStart = c.mods[m].relaxStart) :
    c'.gainsOk := by
  intro m
  rw [ModuleComp.gainsOk, (e m).1, (e m).2]
  exact h m

theorem gainsOk_clearRects (h : c.gainsOk) : c.clearRects.gainsOk :=
  gainsOk_of_same h fun m => by simp [Controller.clearRects]

theorem gainsOk_clearMarks (h : c.gainsOk) : c.clearMarks.gainsOk :=
  gainsOk_of_same h fun m => by simp [Controller.clearMarks]

theorem gainsOk_settle (m : ModuleId) (h : c.gainsOk) : (c.settle m).gainsOk :=
  gainsOk_clearRects (c := { c with phase := _, alpha := _, k := _, direction := _, unrefined := _ }) h

theorem gainsOk_retire (f : Option ModuleId) (m : ModuleId) (h : c.gainsOk) : (c.retire f m).gainsOk := by
  unfold Controller.retire
  split
  · split
    · exact h
    · exact gainsOk_modModule h fun _ => gainsOk_unity
  · exact h

theorem gainsOk_cut (m : ModuleId) (h : x.ctl.gainsOk) : (cut a x m).ctl.gainsOk :=
  gainsOk_modModule (gainsOk_settle m (gainsOk_retire _ m h)) fun _ => gainsOk_takeOver _

theorem gainsOk_giveWay (m : ModuleId) (h : x.ctl.gainsOk) : (giveWay a x m).ctl.gainsOk := by
  unfold giveWay
  split
  · exact gainsOk_cut _ h
  · exact gainsOk_clearRects (c := { x.ctl with phase := _, alpha := _ }) h

theorem gainsOk_beginHandoff (sm im : ModuleId) (h : c.gainsOk) : (beginHandoff s a c sm im).gainsOk := by
  unfold beginHandoff
  refine gainsOk_modModule (gainsOk_modModule (gainsOk_clearRects ?_) fun _ h => h) fun _ h => h
  exact h

theorem gainsOk_enterFade (sm im : ModuleId) (g : Nat) (rx ry : Int) (u : Bool) (h : c.gainsOk) :
    (enterFade c sm im g rx ry u).gainsOk := by
  unfold enterFade
  refine gainsOk_modModule (gainsOk_clearRects ?_) fun _ h => ⟨⟨le_clamp (by omega) _, clamp_le (by omega) _⟩, h.2⟩
  exact h

theorem gainsOk_completeFade (sm im : ModuleId) (r : Nat) (h : x.ctl.gainsOk) :
    (completeFade a x sm im r).ctl.gainsOk :=
  gainsOk_modModule (gainsOk_modModule (gainsOk_settle im h) fun _ => gainsOk_unity) fun _ => gainsOk_takeOver _

theorem gainsOk_leaveFade (sm im : ModuleId) (r : Nat) (h : x.ctl.gainsOk) : (leaveFade a x sm im r).ctl.gainsOk :=
  gainsOk_modModule (gainsOk_settle sm h) fun _ => gainsOk_unity

theorem gainsOk_prepareLimit (sm im : ModuleId) (h : x.ctl.gainsOk) : (prepareLimit s a x sm im).ctl.gainsOk := by
  unfold prepareLimit
  split
  · exact gainsOk_enterFade _ _ _ _ _ _ h
  · exact gainsOk_modModule (gainsOk_settle sm h) fun _ h => h

/-- A preparation counted once more, and at the limit ended (R98). -/
theorem gainsOk_countPreparation (sm im : ModuleId) {n : Nat} (h : x.ctl.gainsOk) :
    (if x.ctl.params.prepare ≤ n then prepareLimit s a { x with ctl := { x.ctl with prepareCounter := n } } sm im
      else { x with ctl := { x.ctl with prepareCounter := n } } : Staged).ctl.gainsOk := by
  have counted : Controller.gainsOk { x.ctl with prepareCounter := n } := h
  split
  · exact gainsOk_prepareLimit (x := { x with ctl := { x.ctl with prepareCounter := n } }) sm im counted
  · exact counted

theorem gainsOk_continuePreparation (sm im : ModuleId) (h : x.ctl.gainsOk) :
    (continuePreparation s a x sm im).ctl.gainsOk := by
  unfold continuePreparation
  dsimp only
  split
  · exact gainsOk_countPreparation sm im h
  · split
    · exact gainsOk_enterFade _ _ _ _ _ _ h
    · exact gainsOk_countPreparation sm im h

theorem gainsOk_starvedStage (l : ModuleId → Bool) (sm : Option ModuleId) (h : x.ctl.gainsOk) :
    (starvedStage l a x sm).ctl.gainsOk := by
  unfold starvedStage
  dsimp only
  repeat' split
  all_goals first
    | exact h
    | exact gainsOk_cut _ h

theorem gainsOk_steadyStage (l : ModuleId → Bool) (sm : ModuleId) (h : x.ctl.gainsOk) :
    (steadyStage s l a x sm).ctl.gainsOk := by
  unfold steadyStage
  split
  · exact gainsOk_giveWay sm h
  · repeat' split
    all_goals first
      | exact h
      | exact gainsOk_beginHandoff _ _ h

theorem gainsOk_preparingStage (l : ModuleId → Bool) (sm im : ModuleId) (h : x.ctl.gainsOk) :
    (preparingStage s l a x sm im).ctl.gainsOk := by
  unfold preparingStage
  split
  · split
    · exact gainsOk_giveWay (x := x.raise _) sm h
    · exact gainsOk_cut im h
  · split
    · exact gainsOk_settle sm h
    · repeat' split
      all_goals first
        | exact gainsOk_settle sm h
        | exact gainsOk_continuePreparation sm im h
        | exact gainsOk_beginHandoff _ _ h

theorem gainsOk_fadingStage (l : ModuleId → Bool) (sm im : ModuleId) (h : x.ctl.gainsOk) :
    (fadingStage l a x sm im).ctl.gainsOk := by
  unfold fadingStage
  split
  · exact gainsOk_leaveFade sm im _ h
  · split
    · exact gainsOk_completeFade sm im _ h
    · repeat' split
      all_goals exact h

theorem gainsOk_handoffStage (h : x.ctl.gainsOk) : (handoffStage s a x).ctl.gainsOk := by
  have h' : (readied s x).ctl.gainsOk := gainsOk_clearMarks (c := { x.ctl with candidate := _ }) h
  unfold handoffStage
  dsimp only
  split
  · exact gainsOk_starvedStage (x := readied s x) _ _ h'
  · exact gainsOk_steadyStage (x := readied s x) _ _ h'
  · exact gainsOk_preparingStage (x := readied s x) _ _ _ h'
  · exact gainsOk_fadingStage (x := readied s x) _ _ _ h'

theorem gainsOk_fadeStep (sm im : ModuleId) (h : x.ctl.gainsOk) : (fadeStep a x sm im).ctl.gainsOk := by
  have stepped : ∀ k n, Controller.gainsOk { x.ctl with k := k, alpha := n } := fun _ _ => h
  unfold fadeStep
  cases x.ctl.direction <;> dsimp only <;> split
  · exact gainsOk_completeFade (x := { x with ctl := _ }) sm im _ (stepped _ _)
  · exact stepped _ _
  · exact gainsOk_leaveFade (x := { x with ctl := _ }) sm im _ (stepped _ _)
  · exact stepped _ _

theorem gainsOk_levelStage (b : Option ModuleId) (h : x.ctl.gainsOk) : (levelStage a b x).ctl.gainsOk := by
  unfold levelStage
  split
  · exact gainsOk_fadeStep _ _ h
  · split
    · exact gainsOk_modModule h fun _ => gainsOk_relax _
    · exact h
  · exact h
  · exact h

/-- The stages of an advance keep every gain in range (R89). -/
theorem gainsOk_advanceStages (h : s.ctl.gainsOk) : (advanceStages s a).ctl.gainsOk := by
  refine gainsOk_levelStage _ (gainsOk_handoffStage (gainsOk_of_same h fun m => ?_))
  have hm := (zoomStage_keeps a s.ctl).2.2.2.2.2.2.2.2.2 m.val m.isLt
  simp only [Fin.getElem_fin, hm, and_self]

end

/-- The gains are published as they stand (R88). -/
theorem publication_gain (c : Controller) (m : ModuleId) : c.publication.mods[m].gain = c.mods[m].gain := by
  simp [Controller.publication]

end Sys2Proof.Machine
end

section
/-! The hand-off law (R88, R91) through the stages of an advance: between the hand-off stage and the level stage a fade may
stand at step 0, which the level stage then leaves. -/

namespace Sys2Proof.Machine

-- Declaration after declaration: elaborated side by side, those of the joined text need more memory than the check has.
set_option Elab.async false

/-- The counters of R88 outside a fade. -/
def Controller.atRest (c : Controller) : Prop := c.alpha = 0 ∧ c.k = 0 ∧ c.direction = .forward

/-- The hand-off parameters and counters in their ranges (R88, R104). -/
def Controller.countersOk (c : Controller) : Prop :=
  c.params.inRange ∧ (∀ p, c.pendingParams = some p → p.inRange) ∧ 1 ≤ c.fadeInUse ∧ c.fadeInUse ≤ 64
    ∧ c.prepareCounter ≤ 32

/-- The hand-off state between the stages of an advance: a fade stands at a step below its length. -/
def Controller.stageOk (c : Controller) : Prop :=
  match c.phase with
  | .starved _ => c.atRest
  | .steady _ => c.atRest
  | .preparing sm im => sm ≠ im ∧ c.atRest ∧ c.prepareCounter < 32
  | .fading sm im => sm ≠ im ∧ c.k < c.fadeInUse

/-- The hand-off state between two events (R88, R91). -/
def Controller.phaseOk (c : Controller) : Prop :=
  match c.phase with
  | .starved _ => c.atRest
  | .steady _ => c.atRest
  | .preparing sm im => sm ≠ im ∧ c.atRest ∧ c.prepareCounter < 32
  | .fading sm im => sm ≠ im ∧ 1 ≤ c.k ∧ c.k < c.fadeInUse ∧ c.alpha = fadeLevel c.k c.fadeInUse

/-- The hand-off law, read of the Controller. -/
theorem handoffLaw_iff (s : State) : HandoffLaw s ↔ s.ctl.countersOk ∧ s.ctl.phaseOk := by
  unfold HandoffLaw Controller.countersOk Controller.phaseOk Controller.atRest
  cases s.ctl.phase <;> simp only [and_assoc]

section
variable {c : Controller} {a : Advance} {x : Staged} {s : State} {sm im m : ModuleId}

theorem stageOk_of_steady (hp : c.phase = .steady m) (hr : c.atRest) : c.stageOk := by
  unfold Controller.stageOk; rw [hp]; exact hr

theorem stageOk_of_starved {o : Option ModuleId} (hp : c.phase = .starved o) (hr : c.atRest) : c.stageOk := by
  unfold Controller.stageOk; rw [hp]; exact hr

theorem stageOk_of_preparing (hp : c.phase = .preparing sm im) (hne : sm ≠ im) (hr : c.atRest)
    (hn : c.prepareCounter < 32) : c.stageOk := by
  unfold Controller.stageOk; rw [hp]; exact ⟨hne, hr, hn⟩

theorem stageOk_of_fading (hp : c.phase = .fading sm im) (hne : sm ≠ im) (hk : c.k < c.fadeInUse) :
    c.stageOk := by
  unfold Controller.stageOk; rw [hp]; exact ⟨hne, hk⟩

/-- What a stage leaves: counters in range, and a state a stage may leave. -/
def Staged.handoffOk (x : Staged) : Prop := x.ctl.countersOk ∧ x.ctl.stageOk

theorem handoffOk_cut (h : x.ctl.countersOk) : (cut a x m).handoffOk := by
  have e : (x.ctl.retire x.ctl.phase.serving m).countersOk := by
    unfold Controller.retire
    split
    · split <;> exact h
    · exact h
  exact ⟨e, stageOk_of_steady (m := m) rfl ⟨rfl, rfl, rfl⟩⟩

theorem handoffOk_giveWay (h : x.ctl.countersOk) (hr : x.ctl.atRest) : (giveWay a x sm).handoffOk := by
  unfold giveWay
  split
  · exact handoffOk_cut h
  · exact ⟨h, stageOk_of_starved (o := some sm) rfl ⟨rfl, hr.2⟩⟩

theorem handoffOk_settle (h : x.ctl.countersOk) (rs : List Raise) :
    Staged.handoffOk { ctl := x.ctl.settle m, raised := rs } :=
  ⟨h, stageOk_of_steady (m := m) rfl ⟨rfl, rfl, rfl⟩⟩

theorem handoffOk_beginHandoff (h : c.countersOk) (hr : c.atRest) (hne : sm ≠ im) (rs : List Raise) :
    Staged.handoffOk { ctl := beginHandoff s a c sm im, raised := rs } :=
  ⟨⟨h.1, h.2.1, h.2.2.1, h.2.2.2.1, Nat.zero_le _⟩,
    stageOk_of_preparing (sm := sm) (im := im) rfl hne hr (Nat.zero_lt_succ _)⟩

theorem handoffOk_enterFade (h : c.countersOk) (hne : sm ≠ im) (g : Nat) (rx ry : Int) (u : Bool) (rs : List Raise) :
    Staged.handoffOk { ctl := enterFade c sm im g rx ry u, raised := rs } := by
  obtain ⟨hp, hpp, -, -, hn⟩ := h
  obtain ⟨-, hlo, hhi, -⟩ := id hp
  exact ⟨⟨hp, hpp, hlo, hhi, hn⟩, stageOk_of_fading (sm := sm) (im := im) rfl hne hlo⟩

theorem handoffOk_completeFade (h : x.ctl.countersOk) (r : Nat) : (completeFade a x sm im r).handoffOk :=
  ⟨h, stageOk_of_steady (m := im) rfl ⟨rfl, rfl, rfl⟩⟩

theorem handoffOk_leaveFade (h : x.ctl.countersOk) (r : Nat) : (leaveFade a x sm im r).handoffOk :=
  ⟨h, stageOk_of_steady (m := sm) rfl ⟨rfl, rfl, rfl⟩⟩

theorem handoffOk_prepareLimit (h : x.ctl.countersOk) (hne : sm ≠ im) : (prepareLimit s a x sm im).handoffOk := by
  unfold prepareLimit
  split
  · exact handoffOk_enterFade h hne _ _ _ _ _
  · exact ⟨h, stageOk_of_steady (m := sm) rfl ⟨rfl, rfl, rfl⟩⟩

/-- A preparation counted once more stays below its limit, or is ended (R98). -/
theorem handoffOk_countPreparation (h : x.ctl.countersOk) (hr : x.ctl.atRest) (hp : x.ctl.phase = .preparing sm im)
    (hne : sm ≠ im) (hn : x.ctl.prepareCounter < 32) :
    (if x.ctl.params.prepare ≤ x.ctl.prepareCounter + 1 then
        prepareLimit s a { x with ctl := { x.ctl with prepareCounter := x.ctl.prepareCounter + 1 } } sm im
      else { x with ctl := { x.ctl with prepareCounter := x.ctl.prepareCounter + 1 } } : Staged).handoffOk := by
  obtain ⟨hpar, hpp, hlo, hhi, -⟩ := h
  have hmax : x.ctl.params.prepare ≤ 32 := hpar.2.2.2.2.2.1
  have counted : Controller.countersOk { x.ctl with prepareCounter := x.ctl.prepareCounter + 1 } :=
    ⟨hpar, hpp, hlo, hhi, hn⟩
  split
  · exact handoffOk_prepareLimit (x := { x with ctl := { x.ctl with prepareCounter := _ } }) counted hne
  · refine ⟨counted, stageOk_of_preparing (sm := sm) (im := im) hp hne hr ?_⟩
    show x.ctl.prepareCounter + 1 < 32
    omega

theorem handoffOk_continuePreparation (h : x.ctl.countersOk) (hr : x.ctl.atRest) (hp : x.ctl.phase = .preparing sm im)
    (hne : sm ≠ im) (hn : x.ctl.prepareCounter < 32) : (continuePreparation s a x sm im).handoffOk := by
  unfold continuePreparation
  dsimp only
  split
  · exact handoffOk_countPreparation h hr hp hne hn
  · split
    · exact handoffOk_enterFade h hne _ _ _ _ _
    · exact handoffOk_countPreparation h hr hp hne hn

theorem handoffOk_starvedStage (l : ModuleId → Bool) {o : Option ModuleId} (h : x.ctl.countersOk) (hr : x.ctl.atRest)
    (hp : x.ctl.phase = .starved o) : (starvedStage l a x o).handoffOk := by
  have otherwise : (match x.ctl.candidate with | some m => cut a x m | none => x : Staged).handoffOk := by
    split
    · exact handoffOk_cut h
    · exact ⟨h, stageOk_of_starved hp hr⟩
  unfold starvedStage
  dsimp only
  split
  · split
    · exact otherwise
    · exact ⟨h, stageOk_of_steady (c := { x.ctl with phase := _ }) rfl hr⟩
  · exact otherwise

theorem handoffOk_steadyStage (l : ModuleId → Bool) (h : x.ctl.countersOk) (hr : x.ctl.atRest)
    (hp : x.ctl.phase = .steady sm) : (steadyStage s l a x sm).handoffOk := by
  have stays : x.handoffOk := ⟨h, stageOk_of_steady hp hr⟩
  unfold steadyStage
  split
  · exact handoffOk_giveWay h hr
  · split
    · split
      · rename_i hm
        exact handoffOk_beginHandoff h hr (Ne.symm hm.1) _
      · exact stays
    · exact stays

theorem handoffOk_preparingStage (l : ModuleId → Bool) (h : x.ctl.countersOk) (hr : x.ctl.atRest)
    (hp : x.ctl.phase = .preparing sm im) (hne : sm ≠ im) (hn : x.ctl.prepareCounter < 32) :
    (preparingStage s l a x sm im).handoffOk := by
  unfold preparingStage
  split
  · split
    · exact handoffOk_giveWay (x := x.raise _) h hr
    · exact handoffOk_cut h
  · split
    · exact handoffOk_settle h _
    · split
      · exact handoffOk_settle h _
      · split
        · exact handoffOk_settle h _
        · split
          · exact handoffOk_continuePreparation h hr hp hne hn
          · rename_i hm _
            exact handoffOk_beginHandoff h hr (Ne.symm hm) _

theorem handoffOk_fadingStage (l : ModuleId → Bool) (h : x.ctl.countersOk) (hp : x.ctl.phase = .fading sm im)
    (hne : sm ≠ im) (hk : x.ctl.k < x.ctl.fadeInUse) : (fadingStage l a x sm im).handoffOk := by
  have still : ∀ d, Staged.handoffOk { x with ctl := { x.ctl with direction := d } } := fun d =>
    ⟨h, stageOk_of_fading (c := { x.ctl with direction := d }) hp hne hk⟩
  unfold fadingStage
  split
  · exact handoffOk_leaveFade h _
  · split
    · exact handoffOk_completeFade h _
    · split
      · exact still _
      · split
        · exact still _
        · exact still x.ctl.direction

/-- The hand-off stage leaves a lawful stage of a lawful Controller. -/
theorem handoffOk_handoffStage (h : x.ctl.countersOk) (hp : x.ctl.phaseOk) : (handoffStage s a x).handoffOk := by
  have h' : (readied s x).ctl.countersOk := h
  unfold Controller.phaseOk at hp
  unfold handoffStage
  dsimp only
  split
  · rename_i e
    rw [e] at hp
    exact handoffOk_starvedStage (x := readied s x) _ h' hp e
  · rename_i e
    rw [e] at hp
    exact handoffOk_steadyStage (x := readied s x) _ h' hp e
  · rename_i e
    rw [e] at hp
    exact handoffOk_preparingStage (x := readied s x) _ h' hp.2.1 e hp.1 hp.2.2
  · rename_i e
    rw [e] at hp
    exact handoffOk_fadingStage (x := readied s x) _ h' e hp.1 hp.2.2.1

/-- A settled state is lawful between events too. -/
theorem phaseOk_of_steady (hp : c.phase = .steady m) (hr : c.atRest) : c.phaseOk := by
  unfold Controller.phaseOk; rw [hp]; exact hr

/-- One step of a fade leaves it within its length, or ends it (R102). -/
theorem handoff_fadeStep (h : x.ctl.countersOk) (hp : x.ctl.phase = .fading sm im) (hne : sm ≠ im)
    (hk : x.ctl.k < x.ctl.fadeInUse) :
    (fadeStep a x sm im).ctl.countersOk ∧ (fadeStep a x sm im).ctl.phaseOk := by
  have stepped : ∀ k, 1 ≤ k → k < x.ctl.fadeInUse →
      Controller.phaseOk { x.ctl with k := k, alpha := fadeLevel k x.ctl.fadeInUse } := by
    intro k h1 h2
    unfold Controller.phaseOk
    dsimp only
    rw [hp]
    exact ⟨hne, h1, h2, rfl⟩
  unfold fadeStep
  cases hdir : x.ctl.direction <;> dsimp only <;> split
  · exact ⟨h, phaseOk_of_steady (m := im) rfl ⟨rfl, rfl, rfl⟩⟩
  · exact ⟨h, stepped _ (by omega) (by omega)⟩
  · exact ⟨h, phaseOk_of_steady (m := sm) rfl ⟨rfl, rfl, rfl⟩⟩
  · exact ⟨h, stepped _ (by omega) (by omega)⟩

theorem handoff_levelStage (b : Option ModuleId) (h : x.handoffOk) :
    (levelStage a b x).ctl.countersOk ∧ (levelStage a b x).ctl.phaseOk := by
  obtain ⟨hc, hs⟩ := h
  unfold Controller.stageOk at hs
  unfold levelStage
  split
  · rename_i e
    rw [e] at hs
    exact handoff_fadeStep hc e hs.1 hs.2
  · rename_i m e
    rw [e] at hs
    have steady : ∀ f, (x.ctl.modModule m f).phaseOk := fun _ => phaseOk_of_steady (m := m) e hs
    split
    · exact ⟨hc, steady _⟩
    · exact ⟨hc, phaseOk_of_steady e hs⟩
  · rename_i e
    rw [e] at hs
    exact ⟨hc, by unfold Controller.phaseOk; rw [e]; exact hs⟩
  · rename_i e
    rw [e] at hs
    exact ⟨hc, by unfold Controller.phaseOk; rw [e]; exact hs⟩

/-- The pending parameters move into use and are no longer pending (R105); the zoom stage leaves them. -/
theorem zoomStage_params (a : Advance) (c : Controller) :
    (zoomStage a c.transfer).ctl.params = c.pendingParams.getD c.params
      ∧ (zoomStage a c.transfer).ctl.pendingParams = none := by
  unfold zoomStage rampEnd zoomClamp
  dsimp only
  split <;> exact ⟨rfl, rfl⟩

theorem handoff_zoomStage (h : c.countersOk) (hp : c.phaseOk) :
    (zoomStage a c.transfer).ctl.countersOk ∧ (zoomStage a c.transfer).ctl.phaseOk := by
  obtain ⟨ephase, edir, ek, efade, ealpha, -, -, -, eprep, -⟩ := zoomStage_keeps a c
  obtain ⟨epar, epend⟩ := zoomStage_params a c
  obtain ⟨hpar, hpend, hlo, hhi, hn⟩ := h
  refine ⟨⟨?_, by simp [epend], by rwa [efade], by rwa [efade], by rwa [eprep]⟩, ?_⟩
  · rw [epar]
    cases hq : c.pendingParams with
    | none => exact hpar
    | some p => exact hpend p hq
  · unfold Controller.phaseOk Controller.atRest at hp ⊢
    rw [ephase, edir, ek, efade, ealpha, eprep]
    exact hp

/-- The stages of an advance keep the hand-off state lawful (R88, R91). -/
theorem handoff_advanceStages (h : s.ctl.countersOk) (hp : s.ctl.phaseOk) :
    (advanceStages s a).ctl.countersOk ∧ (advanceStages s a).ctl.phaseOk := by
  obtain ⟨hz, hzp⟩ := handoff_zoomStage (a := a) h hp
  exact handoff_levelStage _ (handoffOk_handoffStage hz hzp)

end

end Sys2Proof.Machine
end

section
/-! The zoom stage said once (R75 to R79): a zoom step (R77, R78), what the stage leaves of the Controller, and the zoom law
(R73) through an advance. -/

namespace Sys2Proof.Machine

-- Declaration after declaration: elaborated side by side, those of the joined text need more memory than the check has.
set_option Elab.async false

/-! ### One step of the zoom (R77, R78) -/

section
variable {zq zt r : Nat}

@[simp] theorem zoomStep_self (z r : Nat) : zoomStep z z r = z := by simp [zoomStep]

@[simp] theorem zoomStep_jump (zq zt : Nat) : zoomStep zq zt 65536 = zt := by
  unfold zoomStep
  split
  · assumption
  · rfl

theorem zoomStep_of_lt (h : zq < zt) (hr : r ≠ 65536) :
    zoomStep zq zt r =
      if zt ≤ (zq * r + 32768) / 65536 then zt
      else if (zq * r + 32768) / 65536 = zq then zq + 1 else (zq * r + 32768) / 65536 := by
  rw [zoomStep, if_neg (by omega), if_neg hr, if_pos h]

theorem zoomStep_of_gt (h : zt < zq) (hr : r ≠ 65536) :
    zoomStep zq zt r =
      if (2 * zq * 65536 + r) / (2 * r) ≤ zt then zt
      else if (2 * zq * 65536 + r) / (2 * r) = zq then zq - 1 else (2 * zq * 65536 + r) / (2 * r) := by
  rw [zoomStep, if_neg (by omega), if_neg hr, if_neg (by omega)]

/-- Upward, the rounded product is no less than the zoom. -/
theorem le_product (hr : 65536 ≤ r) : zq ≤ (zq * r + 32768) / 65536 := by
  have : zq * 65536 ≤ zq * r := Nat.mul_le_mul_left zq hr
  omega

/-- Downward, the rounded quotient is no more than the zoom. -/
theorem quotient_le (hr : 65536 ≤ r) : (2 * zq * 65536 + r) / (2 * r) ≤ zq := by
  have h : zq * 65536 ≤ zq * r := Nat.mul_le_mul_left zq hr
  have hlt : (2 * zq * 65536 + r) / (2 * r) < zq + 1 := by
    rw [Nat.div_lt_iff_lt_mul (by omega)]
    have : (zq + 1) * (2 * r) = 2 * (zq * r) + 2 * r := by ring
    omega
  omega

/-- A step upward moves toward the target, not past it. -/
theorem zoomStep_up (h : zq < zt) (hr : 65536 ≤ r) : zq < zoomStep zq zt r ∧ zoomStep zq zt r ≤ zt := by
  by_cases hj : r = 65536
  · subst hj; simpa using h
  · have := le_product (zq := zq) hr
    rw [zoomStep_of_lt h hj]
    split_ifs <;> omega

/-- A step downward moves toward the target, not past it. -/
theorem zoomStep_down (h : zt < zq) (hr : 65536 ≤ r) : zt ≤ zoomStep zq zt r ∧ zoomStep zq zt r < zq := by
  by_cases hj : r = 65536
  · subst hj; simpa using h
  · have := quotient_le (zq := zq) hr
    rw [zoomStep_of_gt h hj]
    split_ifs <;> omega

/-- A step stays within every limits that hold zoom and target. -/
theorem zoomStep_mem {lo hi : Nat} (hr : 65536 ≤ r) (hq : lo ≤ zq ∧ zq ≤ hi) (ht : lo ≤ zt ∧ zt ≤ hi) :
    lo ≤ zoomStep zq zt r ∧ zoomStep zq zt r ≤ hi := by
  rcases Nat.lt_trichotomy zq zt with h | rfl | h
  · have := zoomStep_up h hr
    omega
  · simpa using hq
  · have := zoomStep_down h hr
    omega

/-- A number between a quotient and the next is that quotient. -/
theorem div_eq_of_bounds {n d z : Nat} (hlo : d * z ≤ n) (hhi : n < d * (z + 1)) : n / d = z :=
  Nat.div_eq_of_lt_le (by rwa [Nat.mul_comm]) (by rwa [Nat.mul_comm])

end

/-- Settles O57: the step's three shapes are read off `zoomStep`, and the rounded values are bounded by the rate. -/
theorem zoomStepApproaches : Obligations.ZoomStepApproaches := by
  intro zq zt r hlo _
  refine ⟨fun h => zoomStep_up h hlo, fun h => zoomStep_down h hlo, zoomStep_self zt r, zoomStep_jump zq zt,
    fun hr z => ⟨fun h h1 h2 => ?up, fun h h1 h2 => ?down⟩⟩
  case up =>
    have e : (zq * r + 32768) / 65536 = z := by
      rw [mul_assoc 2 zq r] at h1 h2
      exact div_eq_of_bounds (by omega) (by omega)
    rw [zoomStep_of_lt h hr, e]
  case down => rw [zoomStep_of_gt h hr, div_eq_of_bounds h1 h2]

/-! ### The zoom stage of an advance -/

/-- The limits in use after the transfer (R63). -/
def Controller.nextField (c : Controller) : Field := c.pendingField.getD c.field

/-- The target that the zoom stage takes, limited (R75, R76). -/
def Controller.nextTarget (c : Controller) : Nat :=
  clamp c.nextField.zmin c.nextField.zmax (c.pendingZoom.elim c.zt (·.target))

/-- The rate that the zoom stage takes (R75). -/
def Controller.nextRate (c : Controller) : Nat := c.pendingZoom.elim c.rate (·.rate)

/-- The zoom limited, before its step (R76). -/
def Controller.limitedZoom (c : Controller) : Nat := clamp c.nextField.zmin c.nextField.zmax c.zq

/-- The zoom after its step (R77, R78). -/
def Controller.nextZoom (c : Controller) : Nat := zoomStep c.limitedZoom c.nextTarget c.nextRate

/-- What the zoom stage leaves of field, zoom, ramp, requests and force (R63, R75 to R79, R81). -/
theorem zoomStage_takes (a : Advance) (c : Controller) :
    let z := (zoomStage a c.transfer).ctl
    z.field = c.nextField ∧ z.pendingField = none ∧ z.zt = c.nextTarget ∧ z.rate = c.nextRate ∧ z.zq = c.nextZoom
      ∧ z.rampOpen = ((c.pendingZoom.isSome || c.rampOpen) && c.nextZoom != c.nextTarget)
      ∧ z.pendingZoom = none ∧ z.pendingForce = none
      ∧ z.forced = match c.pendingForce with
        | none => c.forced
        | some (.force m) => some m
        | some .release => none := by
  have hramp : ∀ r : Bool, (r && c.nextZoom == c.nextTarget) = true →
      false = (r && c.nextZoom != c.nextTarget) := by
    intro r h; cases r <;> simp_all
  have hstay : ∀ r : Bool, ¬(r && c.nextZoom == c.nextTarget) = true → r = (r && c.nextZoom != c.nextTarget) := by
    intro r h; cases r <;> simp_all
  unfold zoomStage rampEnd
  dsimp only
  split
  · exact ⟨rfl, rfl, rfl, rfl, rfl, hramp _ ‹_›, rfl, rfl, rfl⟩
  · exact ⟨rfl, rfl, rfl, rfl, rfl, hstay _ ‹_›, rfl, rfl, rfl⟩

/-- Equal kept parts agree on what the hand-off and level stages leave alone. -/
theorem kept_fields {c c' : Controller} (h : c'.kept = c.kept) :
    c'.field = c.field ∧ c'.pendingField = c.pendingField ∧ c'.zq = c.zq ∧ c'.zt = c.zt ∧ c'.rate = c.rate
      ∧ c'.rampOpen = c.rampOpen ∧ c'.pendingZoom = c.pendingZoom ∧ c'.forced = c.forced
      ∧ c'.pendingForce = c.pendingForce ∧ c'.candidate = c.candidate ∧ c'.frozen = c.frozen ∧ c'.params = c.params
      ∧ c'.pendingParams = c.pendingParams := by
  have same : ∀ {β : Type} (f : Controller → β), f c'.kept = f c.kept := fun f => congrArg f h
  exact ⟨same (·.field), same (·.pendingField), same (·.zq), same (·.zt), same (·.rate), same (·.rampOpen),
    same (·.pendingZoom), same (·.forced), same (·.pendingForce), same (·.candidate), same (·.frozen), same (·.params),
    same (·.pendingParams)⟩

/-- What the stages of an advance leave of field, zoom, ramp, requests, force and parameters. -/
theorem advanceStages_takes (s : State) (a : Advance) :
    let c := s.ctl
    let z := (advanceStages s a).ctl
    z.field = c.nextField ∧ z.pendingField = none ∧ z.zt = c.nextTarget ∧ z.rate = c.nextRate ∧ z.zq = c.nextZoom
      ∧ z.rampOpen = ((c.pendingZoom.isSome || c.rampOpen) && c.nextZoom != c.nextTarget)
      ∧ z.pendingZoom = none ∧ z.pendingForce = none
      ∧ z.forced = (match c.pendingForce with
        | none => c.forced
        | some (.force m) => some m
        | some .release => none)
      ∧ z.params = c.pendingParams.getD c.params ∧ z.pendingParams = none ∧ z.frozen = c.frozen := by
  obtain ⟨k1, k2, k3, k4, k5, k6, k7, k8, k9, -, k11, k12, k13⟩ := kept_fields (kept_advanceStages s a)
  obtain ⟨t1, t2, t3, t4, t5, t6, t7, t8, t9⟩ := zoomStage_takes a s.ctl
  obtain ⟨p1, p2⟩ := zoomStage_params a s.ctl
  have hf := (zoomStage_keeps a s.ctl).2.2.2.2.2.2.2.1
  exact ⟨k1.trans t1, k2.trans t2, k4.trans t3, k5.trans t4, k3.trans t5, k6.trans t6, k7.trans t7, k9.trans t8,
    k8.trans t9, k12.trans p1, k13.trans p2, k11.trans hf⟩

/-! ### The zoom law (R73) -/

/-- The zoom law of the Controller (R73). -/
def Controller.zoomOk (c : Controller) : Prop :=
  c.field.inRange ∧ (∀ f, c.pendingField = some f → f.inRange)
    ∧ c.field.zmin ≤ c.zq ∧ c.zq ≤ c.field.zmax ∧ c.field.zmin ≤ c.zt ∧ c.zt ≤ c.field.zmax
    ∧ 65536 ≤ c.rate ∧ c.rate ≤ 131072 ∧ (c.rampOpen = false → c.zq = c.zt)
    ∧ ∀ z, c.pendingZoom = some z → 16384 ≤ z.target ∧ z.target ≤ 4194304 ∧ 65536 ≤ z.rate ∧ z.rate ≤ 131072

theorem zoomLaw_iff (s : State) : ZoomLaw s ↔ s.ctl.zoomOk := Iff.rfl

theorem nextField_inRange {c : Controller} (h : c.zoomOk) : c.nextField.inRange := by
  obtain ⟨hf, hp, -⟩ := h
  unfold Controller.nextField
  cases e : c.pendingField with
  | none => exact hf
  | some f => exact hp f e

theorem nextRate_inRange {c : Controller} (h : c.zoomOk) : 65536 ≤ c.nextRate ∧ c.nextRate ≤ 131072 := by
  obtain ⟨-, -, -, -, -, -, hlo, hhi, -, hz⟩ := h
  unfold Controller.nextRate
  cases e : c.pendingZoom with
  | none => exact ⟨hlo, hhi⟩
  | some z => exact (hz z e).2.2

/-- With no ramp open and no request pending, the zoom is at the target that the zoom stage takes (R79). -/
theorem nextZoom_of_no_ramp {c : Controller} (h : c.zoomOk) (hr : (c.pendingZoom.isSome || c.rampOpen) = false) :
    c.nextZoom = c.nextTarget := by
  obtain ⟨hz, ho⟩ : c.pendingZoom = none ∧ c.rampOpen = false := by simpa using hr
  have hq : c.zq = c.zt := h.2.2.2.2.2.2.2.2.1 ho
  have : c.limitedZoom = c.nextTarget := by
    rw [Controller.limitedZoom, Controller.nextTarget, hz, hq]; rfl
  rw [Controller.nextZoom, this, zoomStep_self]

/-- The stages of an advance keep the zoom law (R73). -/
theorem zoomOk_advanceStages {s : State} {a : Advance} (h : s.ctl.zoomOk) : (advanceStages s a).ctl.zoomOk := by
  obtain ⟨e1, e2, e3, e4, e5, e6, e7, -⟩ := advanceStages_takes s a
  have hf := nextField_inRange h
  have hle : s.ctl.nextField.zmin ≤ s.ctl.nextField.zmax := Nat.le_of_lt hf.2.2.2.1
  have ht : s.ctl.nextField.zmin ≤ s.ctl.nextTarget ∧ s.ctl.nextTarget ≤ s.ctl.nextField.zmax :=
    ⟨le_clamp hle _, clamp_le hle _⟩
  have hq : s.ctl.nextField.zmin ≤ s.ctl.nextZoom ∧ s.ctl.nextZoom ≤ s.ctl.nextField.zmax :=
    zoomStep_mem (nextRate_inRange h).1 ⟨le_clamp hle _, clamp_le hle _⟩ ht
  unfold Controller.zoomOk
  rw [e1, e2, e3, e4, e5, e6, e7]
  refine ⟨hf, nofun, hq.1, hq.2, ht.1, ht.2, (nextRate_inRange h).1, (nextRate_inRange h).2, fun ho => ?_, nofun⟩
  cases hr : (s.ctl.pendingZoom.isSome || s.ctl.rampOpen) with
  | false => exact nextZoom_of_no_ramp h hr
  | true => simpa [hr] using ho

end Sys2Proof.Machine
end

section
/-! Slots, trackers and extents: what slotsLawful says slot by slot (R21, R39 to R42), the check of a new window (R4, R5)
and the layout law range by range. -/

namespace Sys2Proof.Machine

-- Declaration after declaration: elaborated side by side, those of the joined text need more memory than the check has.
set_option Elab.async false

/-! ### Extents that share no byte (R4) -/

theorem overlaps_comm (a b : Extent) : a.overlaps b = b.overlaps a := by
  unfold Extent.overlaps
  rw [Bool.eq_iff_iff]
  simp only [Bool.and_eq_true, decide_eq_true_eq]
  tauto

/-- Two extents overlap exactly when some address lies in both. -/
theorem overlaps_iff (a b : Extent) : a.overlaps b = true ↔ ∃ n, a.contains n = true ∧ b.contains n = true := by
  simp only [Extent.overlaps, Extent.contains, Bool.and_eq_true, decide_eq_true_eq]
  constructor
  · rintro ⟨⟨⟨h1, h2⟩, h3⟩, h4⟩
    exact ⟨max a.start b.start, by omega, by omega⟩
  · rintro ⟨n, h1, h2⟩
    omega

/-- The check of a new window passes exactly when it lies in the carve-out and shares no byte with another configured
window, the control page or a loaded slot that is not excepted (R4, R5). -/
theorem windowRefusal_eq_none (s : State) (index : Nat) (but : Option ModuleId) (e : Extent) :
    s.windowRefusal index but e = none ↔
      insideCarve s.cfg e.start e.size = true
      ∧ (∀ x ∈ s.windows, x.1 ≠ index → e.overlaps x.2 = false)
      ∧ e.overlaps (controlExtent s.cfg) = false
      ∧ ∀ x ∈ s.slotExtents but, e.overlaps x.2 = false := by
  unfold State.windowRefusal
  split
  · rename_i hin
    rw [Option.map_eq_none_iff, State.overlapHit]
    split
    · rename_i x hx
      have hp := List.find?_some hx
      have hm := List.mem_of_find?_eq_some hx
      simp only [Bool.and_eq_true, bne_iff_ne] at hp
      refine iff_of_false nofun fun h => ?_
      simp [h.2.1 x hm hp.1] at hp
    · rename_i hw
      rw [List.find?_eq_none] at hw
      have hw' : ∀ x ∈ s.windows, x.1 ≠ index → e.overlaps x.2 = false := by
        intro x hx hne
        simpa [hne] using hw x hx
      split
      · rename_i hc
        exact iff_of_false nofun fun h => by simp [h.2.2.1] at hc
      · rename_i hc
        rw [Option.map_eq_none_iff, List.find?_eq_none]
        simp only [Bool.not_eq_true] at hc ⊢
        exact ⟨fun h => ⟨hin, hw', hc, h⟩, fun h => h.2.2.2⟩
  · rename_i hin
    exact iff_of_false nofun fun h => hin h.1

/-! ### The ranges of the layout law (R4) -/

/-- What the law of R4 keeps apart: a capture window, a view window, the control page, a module's slots. -/
inductive RangeName where
  | capture (m : ModuleId)
  | view (v : ViewId)
  | page
  | slots (m : ModuleId)
deriving DecidableEq

/-- The ranges in the order of `State.extents`. -/
def allRanges : List RangeName := allModules.map .capture ++ allViews.map .view ++ [.page] ++ allModules.map .slots

theorem mem_allModules (m : ModuleId) : m ∈ allModules := by revert m; decide

theorem mem_allViews (v : ViewId) : v ∈ allViews := by revert v; decide

theorem mem_allRanges (l : RangeName) : l ∈ allRanges := by
  cases l <;> simp [allRanges, mem_allModules, mem_allViews]

/-- The extents of a range. -/
def State.rangeExtents (s : State) : RangeName → List Extent
  | .capture m => s.path.captureWindows[m].extent.toList
  | .view v => s.path.viewWindows[v].extent.toList
  | .page => [controlExtent s.cfg]
  | .slots m => s.store.mods[m].slots.map Slot.extent

theorem map_mapIdx_snd {α β : Type} (f : Nat → Nat) (g : α → β) (l : List α) :
    (l.mapIdx fun i x => (f i, g x)).map (·.2) = l.map g := by
  apply List.ext_getElem
  · simp
  · intro i h1 h2
    simp

theorem slotExtents_none (s : State) :
    (s.slotExtents none).map (·.2) = (allModules.map fun m => s.rangeExtents (.slots m)).flatten := by
  unfold State.slotExtents State.slotExtentsOf State.rangeExtents
  rw [List.map_flatten, List.map_map]
  congr 1
  apply List.map_congr_left
  intro m _
  exact map_mapIdx_snd (8 * m.val + ·) Slot.extent _

theorem windows_map_snd (s : State) :
    s.windows.map (·.2) = (allModules.map fun m => s.rangeExtents (.capture m)).flatten
      ++ (allViews.map fun v => s.rangeExtents (.view v)).flatten := by
  unfold State.windows State.rangeExtents
  rw [List.map_append, List.map_filterMap, List.map_filterMap, List.filterMap_eq_flatMap_toList,
    List.filterMap_eq_flatMap_toList, List.flatMap_def, List.flatMap_def]
  simp only [Option.map_map, Function.comp_def, Option.map_id']

/-- The extents are those of the ranges in order. -/
theorem extents_eq (s : State) : s.extents = (allRanges.map s.rangeExtents).flatten := by
  unfold State.extents allRanges
  rw [windows_map_snd, slotExtents_none]
  simp only [List.map_append, List.flatten_append, List.map_map, Function.comp_def, List.map_cons, List.map_nil,
    List.flatten_cons, List.flatten_nil, List.append_nil]
  rfl

/-- An extent in whole pages of the carve-out (R2, R4). -/
def Extent.placed (g : Config) (e : Extent) : Prop :=
  insideCarve g e.start e.size = true ∧ e.start % 4096 = 0 ∧ e.size % 4096 = 0

/-- The layout law, range by range. -/
theorem layoutLaw_iff (s : State) :
    LayoutLaw s ↔ s.cfg.wf = true ∧ (∀ l, ∀ e ∈ s.rangeExtents l, e.placed s.cfg)
      ∧ (∀ l, (s.rangeExtents l).Pairwise fun a b => a.overlaps b = false)
      ∧ ∀ l l', l ≠ l' → ∀ a ∈ s.rangeExtents l, ∀ b ∈ s.rangeExtents l', a.overlaps b = false := by
  have hsymm : Std.Symm fun l l' : RangeName =>
      ∀ a ∈ s.rangeExtents l, ∀ b ∈ s.rangeExtents l', a.overlaps b = false :=
    ⟨fun l l' h a ha b hb => (overlaps_comm a b).trans (h b hb a ha)⟩
  have hnodup : allRanges.Nodup := by decide
  unfold LayoutLaw
  rw [extents_eq, List.pairwise_flatten, List.pairwise_map]
  simp only [List.mem_flatten, List.mem_map, exists_exists_and_eq_and, forall_exists_index, and_imp,
    forall_apply_eq_imp_iff₂]
  refine and_congr_right fun _ => and_congr ?_ (and_congr ?_ ?_)
  · exact ⟨fun h l e he => h e l (mem_allRanges l) he, fun h e l _ he => h l e he⟩
  · exact ⟨fun h l => h l (mem_allRanges l), fun h l _ => h l⟩
  · exact ⟨fun h l l' hne => h.forall (mem_allRanges l) (mem_allRanges l') hne,
      fun h => hnodup.pairwise_of_forall_ne fun l _ l' _ => h l l'⟩

/-- Ranges that only shrink keep the layout law. -/
theorem layout_of_sublist {s s' : State} (hg : s'.cfg = s.cfg)
    (h : ∀ l, (s'.rangeExtents l).Sublist (s.rangeExtents l)) (hs : LayoutLaw s) : LayoutLaw s' := by
  rw [layoutLaw_iff] at hs ⊢
  obtain ⟨hwf, hin, hpair, hapart⟩ := hs
  rw [hg]
  exact ⟨hwf, fun l e he => hin l e ((h l).mem he), fun l => (hpair l).sublist (h l),
    fun l l' hne a ha b hb => hapart l l' hne a ((h l).mem ha) b ((h l').mem hb)⟩

/-- A range that is newly placed, apart from all others, keeps the layout law. -/
theorem layout_of_placed {s s' : State} (l : RangeName) (hg : s'.cfg = s.cfg)
    (h : ∀ k, k ≠ l → (s'.rangeExtents k).Sublist (s.rangeExtents k))
    (hin : ∀ e ∈ s'.rangeExtents l, e.placed s.cfg)
    (hpair : (s'.rangeExtents l).Pairwise fun a b => a.overlaps b = false)
    (hapart : ∀ k, k ≠ l → ∀ a ∈ s'.rangeExtents l, ∀ b ∈ s'.rangeExtents k, a.overlaps b = false)
    (hs : LayoutLaw s) : LayoutLaw s' := by
  rw [layoutLaw_iff] at hs ⊢
  obtain ⟨hwf, hin', hpair', hapart'⟩ := hs
  rw [hg]
  refine ⟨hwf, fun k e he => ?_, fun k => ?_, fun k k' hne a ha b hb => ?_⟩
  · by_cases hk : k = l
    · exact hin e (hk ▸ he)
    · exact hin' k e ((h k hk).mem he)
  · by_cases hk : k = l
    · exact hk ▸ hpair
    · exact (hpair' k).sublist (h k hk)
  · by_cases hk : k = l
    · subst hk
      exact hapart k' (Ne.symm hne) a ha b hb
    · by_cases hk' : k' = l
      · subst hk'
        exact (overlaps_comm a b).trans (hapart k hne b hb a ha)
      · exact hapart' k k' hne a ((h k hk).mem ha) b ((h k' hk').mem hb)

theorem pageDown_mod (n : Nat) : pageDown n % 4096 = 0 := Nat.mul_mod_left ..

theorem pageUp_mod (n : Nat) : pageUp n % 4096 = 0 := Nat.mul_mod_left ..

theorem pixelArea_mod (h d : Nat) : pixelArea h d % 4096 = 0 := pageUp_mod _

/-! ### Slots and holders -/

theorem Slot.isReady_iff (y : Slot) : y.isReady = true ↔ ∃ r, y.state = .ready r := by
  unfold Slot.isReady Slot.record
  cases y.state <;> simp

theorem Slot.isFilling_iff (y : Slot) : y.isFilling = true ↔ y.state = .filling := by simp [Slot.isFilling]

theorem Slot.isFree_iff (y : Slot) : y.isFree = true ↔ y.state = .free := by simp [Slot.isFree]

theorem HolderSet.isEmpty_iff (h : HolderSet) : HolderSet.isEmpty h = true ↔ h = noHolders := by
  simp only [HolderSet.isEmpty, List.all_eq_true, Bool.not_eq_true', Vector.mem_toList_iff]
  constructor
  · intro hh
    apply Vector.ext
    intro i hi
    simpa [noHolders] using hh h[i] (Vector.getElem_mem hi)
  · rintro rfl x hx
    simpa [noHolders] using hx

theorem Slot.unheld_iff (y : Slot) : y.unheld = true ↔ (∃ r, y.state = .ready r) ∧ y.holders = noHolders := by
  rw [Slot.unheld, Bool.and_eq_true, y.isReady_iff, HolderSet.isEmpty_iff]

@[simp] theorem noHolders_remove (x : Holder) : HolderSet.remove noHolders x = noHolders := by
  apply Vector.ext
  intro i hi
  simp [HolderSet.remove, noHolders]

@[simp] theorem Slot.fill_isFilling (y : Slot) : y.fill.isFilling = true := rfl
@[simp] theorem Slot.fill_isReady (y : Slot) : y.fill.isReady = false := rfl
@[simp] theorem Slot.fill_holders (y : Slot) : y.fill.holders = noHolders := rfl
@[simp] theorem Slot.fill_extent (y : Slot) : y.fill.extent = y.extent := rfl
@[simp] theorem Slot.release_isFilling (y : Slot) : y.release.isFilling = false := rfl
@[simp] theorem Slot.release_isReady (y : Slot) : y.release.isReady = false := rfl
@[simp] theorem Slot.release_holders (y : Slot) : y.release.holders = noHolders := rfl
@[simp] theorem Slot.release_extent (y : Slot) : y.release.extent = y.extent := rfl
@[simp] theorem Slot.closed_isFilling (y : Slot) (r : FrameRecord) : (y.closed r).isFilling = false := rfl
@[simp] theorem Slot.closed_isReady (y : Slot) (r : FrameRecord) : (y.closed r).isReady = true := rfl
@[simp] theorem Slot.closed_extent (y : Slot) (r : FrameRecord) : (y.closed r).extent = y.extent := rfl
@[simp] theorem Slot.unhold_state (y : Slot) (x : Holder) : (y.unhold x).state = y.state := rfl
@[simp] theorem Slot.unhold_extent (y : Slot) (x : Holder) : (y.unhold x).extent = y.extent := rfl

@[simp] theorem Slot.hold_state (y : Slot) (x : Holder) : (y.hold x).state = y.state := by
  unfold Slot.hold; split <;> rfl

@[simp] theorem Slot.hold_extent (y : Slot) (x : Holder) : (y.hold x).extent = y.extent := by
  unfold Slot.hold; split <;> rfl

theorem Slot.isReady_congr {y y' : Slot} (h : y'.state = y.state) : y'.isReady = y.isReady := by
  unfold Slot.isReady Slot.record; rw [h]

theorem Slot.isFilling_congr {y y' : Slot} (h : y'.state = y.state) : y'.isFilling = y.isFilling := by
  unfold Slot.isFilling; rw [h]

/-- A slot is in one state at a time. -/
theorem Slot.not_ready_of_filling {y : Slot} (h : y.isFilling = true) : y.isReady = false := by
  rw [Slot.isFilling_iff] at h
  simp [Slot.isReady, Slot.record, h]

theorem Slot.not_filling_of_ready {y : Slot} (h : y.isReady = true) : y.isFilling = false := by
  cases hf : y.isFilling with
  | false => rfl
  | true => simp [Slot.not_ready_of_filling hf] at h

/-- The law of a module's slots, slot by slot (R21, R39, R40, R42). -/
theorem slotsLawful_iff (ms : ModuleSlots) (t : Tracker) :
    slotsLawful ms t ↔ ms.ready.Nodup
      ∧ (∀ i : Nat, i ∈ ms.ready ↔ ∃ y, ms.slots[i]? = some y ∧ y.isReady = true)
      ∧ (∀ i : Nat, t.capture.fillSlot = some i ↔ ∃ y, ms.slots[i]? = some y ∧ y.isFilling = true)
      ∧ (∀ (i : Nat) (y : Slot), ms.slots[i]? = some y → y.isReady = false → y.holders = noHolders)
      ∧ (ms.slots.length = 0 ∨ 2 ≤ ms.slots.length ∧ ms.slots.length ≤ 8) := by
  have at? : ∀ (i : Nat) (p : Slot → Bool),
      (∃ y, ms.slots[i]? = some y ∧ p y = true) ↔ ∃ h : i < ms.slots.length, p ms.slots[i] = true := by
    intro i p
    constructor
    · rintro ⟨y, hy, hp⟩
      obtain ⟨h, rfl⟩ := List.getElem?_eq_some_iff.1 hy
      exact ⟨h, hp⟩
    · rintro ⟨h, hp⟩
      exact ⟨_, List.getElem?_eq_getElem h, hp⟩
  unfold slotsLawful
  rw [forall_congr' fun i => iff_congr Iff.rfl (at? i Slot.isReady),
    forall_congr' fun i => iff_congr Iff.rfl (at? i Slot.isFilling)]
  constructor
  · rintro ⟨hn, hm, hs, hf, hl⟩
    refine ⟨hn, fun i => ⟨fun h => ⟨hm i h, (hs ⟨i, hm i h⟩).1.1 h⟩, fun ⟨h, h'⟩ => (hs ⟨i, h⟩).1.2 h'⟩,
      fun i => ⟨fun h => ⟨hf i h, (hs ⟨i, hf i h⟩).2.1.1 h⟩, fun ⟨h, h'⟩ => (hs ⟨i, h⟩).2.1.2 h'⟩, ?_, hl⟩
    intro i y hy
    obtain ⟨h, rfl⟩ := List.getElem?_eq_some_iff.1 hy
    exact (hs ⟨i, h⟩).2.2
  · rintro ⟨hn, hr, hf, hh, hl⟩
    refine ⟨hn, fun i h => ((hr i).1 h).1, fun i => ⟨⟨fun h => ((hr i).1 h).2, fun h => (hr i).2 ⟨i.isLt, h⟩⟩,
      ⟨fun h => ((hf i).1 h).2, fun h => (hf i).2 ⟨i.isLt, h⟩⟩, hh i _ (List.getElem?_eq_getElem i.isLt)⟩, fun i h => ((hf i).1 h).1, hl⟩

section
variable {ms : ModuleSlots} {t t' : Tracker}

/-- Only the fill slot of the tracker counts for its slots. -/
theorem slotsLawful_congr (h : t'.capture.fillSlot = t.capture.fillSlot) (hs : slotsLawful ms t) : slotsLawful ms t' := by
  rw [slotsLawful_iff] at hs ⊢
  rwa [h]

/-- A module with nothing loaded and no fill slot. -/
theorem slotsLawful_empty (h : t.capture.fillSlot = none) : slotsLawful .empty t := by
  rw [slotsLawful_iff]
  simp [ModuleSlots.empty, h]

/-- The slot list after a change of slot `i`. -/
theorem getElem?_modify_of {l : List Slot} {f : Slot → Slot} {i j : Nat} :
    (l.modify i f)[j]? = if i = j then l[j]?.map f else l[j]? := by
  rw [List.getElem?_modify]
  split <;> cases l[j]? <;> rfl

/-- A slot list whose slots keep their states, the holders of those that are not READY staying none. -/
theorem slotsLawful_of_states {ms' : ModuleSlots} (hr : ms'.ready = ms.ready) (g : Nat → Slot → Slot)
    (hs : ∀ i, ms'.slots[i]? = ms.slots[i]?.map (g i)) (hl : ms'.slots.length = ms.slots.length)
    (hg : ∀ i y, (g i y).state = y.state)
    (hh : ∀ i y, y.isReady = false → y.holders = noHolders → (g i y).holders = noHolders)
    (h : slotsLawful ms t) : slotsLawful ms' t := by
  rw [slotsLawful_iff] at h ⊢
  obtain ⟨hn, hready, hfill, hhold, hlen⟩ := h
  simp only [hr, hs, hl, Option.map_eq_some_iff, exists_exists_and_eq_and, Slot.isReady_congr (hg _ _),
    Slot.isFilling_congr (hg _ _)]
  refine ⟨hn, hready, hfill, ?_, hlen⟩
  rintro i y ⟨z, hz, rfl⟩ hnr
  rw [Slot.isReady_congr (hg _ _)] at hnr
  exact hh i z hnr (hhold i z hz hnr)

theorem slotsLawful_hold (i : Nat) (x : Holder) (h : slotsLawful ms t) : slotsLawful (ms.hold i x) t := by
  refine slotsLawful_of_states (ms := ms) (ms' := ms.hold i x) rfl (fun j y => if i = j then y.hold x else y) (fun j => ?_)
    (List.length_modify ..) (fun j y => ?_) (fun j y hn hy => ?_) h
  · rw [ModuleSlots.hold, getElem?_modify_of]
    split <;> simp
  · split
    · exact Slot.hold_state y x
    · rfl
  · split
    · simpa [Slot.hold, hn] using hy
    · exact hy

theorem slotsLawful_unholdSlot (i : Nat) (x : Holder) (h : slotsLawful ms t) :
    slotsLawful { ms with slots := ms.slots.modify i (·.unhold x) } t := by
  refine slotsLawful_of_states (ms := ms) (ms' := { ms with slots := ms.slots.modify i (·.unhold x) }) rfl
    (fun j y => if i = j then y.unhold x else y) (fun j => ?_) (List.length_modify ..) (fun j y => ?_)
    (fun j y _ hy => ?_) h
  · rw [getElem?_modify_of]
    split <;> simp
  · split <;> rfl
  · split
    · simp [Slot.unhold, hy]
    · exact hy

theorem slotsLawful_unhold (x : Holder) (h : slotsLawful ms t) : slotsLawful (ms.unhold x) t :=
  slotsLawful_of_states (ms := ms) (ms' := ms.unhold x) rfl (fun _ y => y.unhold x) (fun _ => List.getElem?_map ..)
    (List.length_map ..) (fun _ _ => rfl) (fun _ y _ hy => by simp [Slot.unhold, hy]) h

/-- A granted slot is loaded, and is not FILLING (R44). -/
theorem grant_some {i : Nat} (h : ms.grant = some i) : ∃ y, ms.slots[i]? = some y ∧ y.isFilling = false := by
  unfold ModuleSlots.grant at h
  split at h
  · rename_i k hk
    cases h
    rw [List.findIdx?_eq_some_iff_getElem] at hk
    obtain ⟨hlt, hfree, -⟩ := hk
    refine ⟨_, List.getElem?_eq_getElem hlt, ?_⟩
    simp [Slot.isFilling, (Slot.isFree_iff _).1 hfree]
  · have hp := List.find?_some h
    unfold ModuleSlots.recyclable at hp
    cases hy : ms.slots[i]? with
    | none => simp [hy] at hp
    | some y =>
      rw [hy] at hp
      exact ⟨y, rfl, Slot.not_filling_of_ready (Slot.isReady_iff y |>.2 ((Slot.unheld_iff y).1 hp).1)⟩

/-- A slot granted to a frame that opens at an IDLE module (R23, R44). -/
theorem slotsLawful_take {i : Nat} (hg : ms.grant = some i) (hc : t.capture.fillSlot = none)
    (hc' : t'.capture.fillSlot = some i) (h : slotsLawful ms t) : slotsLawful (ms.take i) t' := by
  rw [slotsLawful_iff] at h ⊢
  obtain ⟨hn, hready, hfill, hhold, hlen⟩ := h
  obtain ⟨z, hz, -⟩ := grant_some hg
  have hno : ∀ (j : Nat) (y : Slot), ms.slots[j]? = some y → y.isFilling = false := by
    intro j y hy
    by_contra hf
    exact absurd ((hfill j).2 ⟨y, hy, by simpa using hf⟩) (by simp [hc])
  have hs : ∀ j, (ms.take i).slots[j]? = if i = j then ms.slots[j]?.map Slot.fill else ms.slots[j]? :=
    fun _ => getElem?_modify_of
  refine ⟨hn.filter _, fun j => ?_, fun j => ?_, fun j y hy hnr => ?_, by simpa [ModuleSlots.take] using hlen⟩
  · rw [hs]
    by_cases hj : i = j
    · subst hj; simp [ModuleSlots.take]
    · simp [ModuleSlots.take, hj, Ne.symm hj, hready]
  · rw [hs, hc']
    by_cases hj : i = j
    · subst hj; simp [hz]
    · simp only [hj, Option.some.injEq, if_false, false_iff, not_exists, not_and]
      intro y hy
      simp [hno j y hy]
  · rw [hs] at hy
    split at hy
    · obtain ⟨w, -, rfl⟩ := Option.map_eq_some_iff.1 hy
      rfl
    · exact hhold j y hy hnr

/-- A close of the fill slot (R45). -/
theorem slotsLawful_close {i : Nat} (r : FrameRecord) (hc : t.capture.fillSlot = some i)
    (hc' : t'.capture.fillSlot = none) (h : slotsLawful ms t) : slotsLawful (ms.close i r) t' := by
  rw [slotsLawful_iff] at h ⊢
  obtain ⟨hn, hready, hfill, hhold, hlen⟩ := h
  obtain ⟨z, hz, hzf⟩ := (hfill i).1 hc
  have hi : i ∉ ms.ready := by
    rw [hready]
    rintro ⟨y, hy, hyr⟩
    rw [hz] at hy; cases hy
    simp [Slot.not_ready_of_filling hzf] at hyr
  have hs : ∀ j, (ms.close i r).slots[j]? = if i = j then ms.slots[j]?.map (·.closed r) else ms.slots[j]? :=
    fun _ => getElem?_modify_of
  refine ⟨?_, fun j => ?_, fun j => ?_, fun j y hy hnr => ?_, by simpa [ModuleSlots.close] using hlen⟩
  · exact List.nodup_append.2 ⟨hn, List.nodup_singleton i, fun a ha b hb hab => hi (List.mem_singleton.1 hb ▸ hab ▸ ha)⟩
  · rw [hs]
    by_cases hj : i = j
    · subst hj; simp [ModuleSlots.close, hz]
    · simp [ModuleSlots.close, hj, Ne.symm hj, hready]
  · rw [hs, hc']
    by_cases hj : i = j
    · subst hj; simp [hz]
    · simp only [hj, reduceCtorEq, if_false, false_iff, not_exists, not_and]
      intro y hy hyf
      have := (hfill j).2 ⟨y, hy, hyf⟩
      rw [hc] at this
      exact hj (Option.some.inj this)
  · rw [hs] at hy
    split at hy
    · obtain ⟨w, -, rfl⟩ := Option.map_eq_some_iff.1 hy
      simp at hnr
    · exact hhold j y hy hnr

/-- A return of the fill slot (R45). -/
theorem slotsLawful_giveBack {i : Nat} (hc : t.capture.fillSlot = some i)
    (hc' : t'.capture.fillSlot = none) (h : slotsLawful ms t) : slotsLawful (ms.giveBack i) t' := by
  rw [slotsLawful_iff] at h ⊢
  obtain ⟨hn, hready, hfill, hhold, hlen⟩ := h
  have hs : ∀ j, (ms.giveBack i).slots[j]? = if i = j then ms.slots[j]?.map Slot.release else ms.slots[j]? :=
    fun _ => getElem?_modify_of
  obtain ⟨z, hz, hzf⟩ := (hfill i).1 hc
  refine ⟨hn, fun j => ?_, fun j => ?_, fun j y hy hnr => ?_, by simpa [ModuleSlots.giveBack] using hlen⟩
  · rw [hs]
    by_cases hj : i = j
    · subst hj
      simp [ModuleSlots.giveBack, hready, hz, Slot.not_ready_of_filling hzf]
    · simp [ModuleSlots.giveBack, hj, hready]
  · rw [hs, hc']
    by_cases hj : i = j
    · subst hj; simp [hz]
    · simp only [hj, reduceCtorEq, if_false, false_iff, not_exists, not_and]
      intro y hy hyf
      have := (hfill j).2 ⟨y, hy, hyf⟩
      rw [hc] at this
      exact hj (Option.some.inj this)
  · rw [hs] at hy
    split at hy
    · obtain ⟨w, -, rfl⟩ := Option.map_eq_some_iff.1 hy
      rfl
    · exact hhold j y hy hnr

/-- The fill slot, if there is one, returned (R45). -/
theorem slotsLawful_returned (hc' : t'.capture.fillSlot = none) (h : slotsLawful ms t) :
    slotsLawful (t.capture.fillSlot.elim ms ms.giveBack) t' := by
  cases hc : t.capture.fillSlot with
  | none => exact slotsLawful_congr (hc'.trans hc.symm) h
  | some i => exact slotsLawful_giveBack hc hc' h

/-- A purge (R48). -/
theorem slotsLawful_purge (h : slotsLawful ms t) : slotsLawful ms.purge t := by
  rw [slotsLawful_iff] at h ⊢
  obtain ⟨hn, hready, hfill, hhold, hlen⟩ := h
  have hs : ∀ j : Nat, ms.purge.slots[j]? = ms.slots[j]?.map fun y : Slot => if y.unheld then y.release else y :=
    fun _ => List.getElem?_map ..
  refine ⟨hn.filter _, fun j => ?_, fun j => ?_, fun j y hy hnr => ?_, by simpa [ModuleSlots.purge] using hlen⟩
  · rw [hs]
    cases hy : ms.slots[j]? with
    | none => simp [ModuleSlots.purge, hready, hy]
    | some y =>
      cases hu : y.unheld <;> simp [ModuleSlots.purge, hready, hy, hu, ModuleSlots.recyclable]
  · rw [hs, hfill]
    cases hy : ms.slots[j]? with
    | none => simp
    | some y =>
      cases hu : y.unheld with
      | false => simp [hu]
      | true =>
        have := Slot.not_filling_of_ready ((Slot.isReady_iff y).2 ((Slot.unheld_iff y).1 hu).1)
        simp [hu, this]
  · rw [hs] at hy
    obtain ⟨w, hw, rfl⟩ := Option.map_eq_some_iff.1 hy
    split at hnr
    · rename_i hu; simp [hu]
    · rename_i hu
      simpa [hu] using hhold j w hw hnr

end

end Sys2Proof.Machine
end

section
/-! What an operation inside one event keeps: the laws of the device, each on its own. The frames here say which law an
operation on one block can touch; the operations of the block then follow by cases. -/

namespace Sys2Proof.Machine

-- Declaration after declaration: elaborated side by side, those of the joined text need more memory than the check has.
set_option Elab.async false

/-- Each law of the device that holds before an operation holds after it. -/
structure KeepsLaws (s s' : State) : Prop where
  attention : AttentionLaw s → AttentionLaw s'
  event : EventLaw s → EventLaw s'
  gain : GainLaw s → GainLaw s'
  handoff : HandoffLaw s → HandoffLaw s'
  zoom : ZoomLaw s → ZoomLaw s'
  slot : SlotLaw s → SlotLaw s'
  window : WindowLaw s → WindowLaw s'
  layout : LayoutLaw s → LayoutLaw s'
  fetch : FetchLaw s → FetchLaw s'
  progress : ProgressLaw s → ProgressLaw s'

theorem KeepsLaws.refl (s : State) : KeepsLaws s s := ⟨id, id, id, id, id, id, id, id, id, id⟩

theorem KeepsLaws.trans {a b c : State} (h : KeepsLaws a b) (h' : KeepsLaws b c) : KeepsLaws a c where
  attention := h'.attention ∘ h.attention
  event := h'.event ∘ h.event
  gain := h'.gain ∘ h.gain
  handoff := h'.handoff ∘ h.handoff
  zoom := h'.zoom ∘ h.zoom
  slot := h'.slot ∘ h.slot
  window := h'.window ∘ h.window
  layout := h'.layout ∘ h.layout
  fetch := h'.fetch ∘ h.fetch
  progress := h'.progress ∘ h.progress

theorem KeepsLaws.foldl {α : Type} (f : State → α → State) (h : ∀ s a, KeepsLaws s (f s a)) (l : List α) (s : State) :
    KeepsLaws s (l.foldl f s) := by
  induction l generalizing s with
  | nil => exact .refl s
  | cons a l ih => exact (h s a).trans (ih _)

/-! ### Frames: operations on one block -/

section
variable {s : State}

/-- An operation on the Agent. -/
theorem KeepsLaws.of_agent {a : Agent} (h1 : AttentionLaw s → AttentionLaw { s with agent := a })
    (h2 : EventLaw s → EventLaw { s with agent := a }) (h3 : SlotLaw s → SlotLaw { s with agent := a })
    (h4 : ProgressLaw s → ProgressLaw { s with agent := a }) : KeepsLaws s { s with agent := a } :=
  ⟨h1, h2, id, id, id, h3, id, id, id, h4⟩

/-- An operation on the Agent that leaves events, mask, line and the command in flight. -/
theorem KeepsLaws.of_note {a : Agent} (he : a.events = s.agent.events) (hm : a.mask = s.agent.mask)
    (hl : a.attention = s.agent.attention) (hf : a.inFlight = s.agent.inFlight) : KeepsLaws s { s with agent := a } := by
  apply KeepsLaws.of_agent
  · unfold AttentionLaw; dsimp only; rw [he, hm, hl]; exact id
  · unfold EventLaw; dsimp only; rw [he]; exact id
  · unfold SlotLaw; dsimp only; rw [hf]; exact id
  · unfold ProgressLaw; dsimp only; rw [hf]; exact id

/-- An operation on the Controller. -/
theorem KeepsLaws.of_ctl {c : Controller} (h1 : GainLaw s → GainLaw { s with ctl := c })
    (h2 : HandoffLaw s → HandoffLaw { s with ctl := c }) (h3 : ZoomLaw s → ZoomLaw { s with ctl := c }) :
    KeepsLaws s { s with ctl := c } :=
  ⟨id, id, h1, h2, h3, id, id, id, id, id⟩

/-- A larger serial number leaves a lawful read lawful. -/
theorem readLawful_mono {n n' : Nat} (h : n ≤ n') {r : ReadEntry} (hr : readLawful n r) : readLawful n' r := by
  obtain ⟨h1, h2, h3, h4, h5⟩ := hr
  exact ⟨h1, h2, h3, fun f hf => Nat.lt_of_lt_of_le (h4 f hf) h, h5⟩

/-- An operation on queues and traffic, the window table left as it is. -/
theorem KeepsLaws.of_traffic {p : MemoryPath} {n : Nat} (hc : p.captureWindows = s.path.captureWindows)
    (hv : p.viewWindows = s.path.viewWindows) (hn : s.serial ≤ n) : KeepsLaws s { s with path := p, serial := n } where
  attention := id
  event := id
  gain := id
  handoff := id
  zoom := id
  slot := id
  window := by unfold WindowLaw; dsimp only; rw [hc, hv]; exact id
  layout := by
    refine layout_of_sublist rfl fun l => ?_
    cases l
    case capture => simp only [State.rangeExtents, hc]; exact List.Sublist.refl _
    case view => simp only [State.rangeExtents, hv]; exact List.Sublist.refl _
    case page => exact List.Sublist.refl _
    case slots => exact List.Sublist.refl _
  fetch := fun h e r hr => readLawful_mono hn (h e r hr)
  progress := id

/-- An operation on the Registration Unit. -/
theorem KeepsLaws.of_reg (r : Registration) : KeepsLaws s { s with reg := r } := ⟨id, id, id, id, id, id, id, id, id, id⟩

/-- An operation on the views that leaves which of them are configured and enabled. -/
theorem KeepsLaws.of_views {vs : Vector View 2}
    (h : ∀ v : ViewId, vs[v].enabled = s.comp.views[v].enabled ∧ vs[v].configured = s.comp.views[v].configured) :
    KeepsLaws s { s with comp := { s.comp with views := vs } } where
  attention := id
  event := id
  gain := id
  handoff := id
  zoom := id
  slot := id
  window := by
    rintro ⟨hc, hv⟩
    refine ⟨hc, fun v => ?_⟩
    dsimp only
    rw [(h v).1, (h v).2]
    exact hv v
  layout := id
  fetch := id
  progress := id

theorem keepsLaws_modView (v : ViewId) (f : View → View)
    (h : ∀ w, (f w).enabled = w.enabled ∧ (f w).configured = w.configured) : KeepsLaws s (s.modView v f) := by
  refine KeepsLaws.of_views (vs := upd s.comp.views v f) fun u => ?_
  rw [upd_get]
  split
  · rename_i e; rw [← e]; exact h _
  · exact ⟨rfl, rfl⟩

/-- An operation on one place of the view read table. -/
theorem KeepsLaws.of_entry {e : EntryId} {f : TableEntry → TableEntry} {n : Nat} {w : List Withdrawn} (hn : s.serial ≤ n)
    (h : FetchLaw s → ∀ r, (f s.comp.table[e]).read = some r → readLawful n r) :
    KeepsLaws s { s with comp := { s.comp with table := upd s.comp.table e f, withdrawn := w }, serial := n } where
  attention := id
  event := id
  gain := id
  handoff := id
  zoom := id
  slot := id
  window := id
  layout := id
  fetch := by
    intro hs k r hr
    dsimp only at hr
    rw [upd_get] at hr
    split at hr
    · exact h hs r hr
    · exact readLawful_mono hn (hs k r hr)
  progress := id

/-- What an operation leaves of one module's slots and tracker: service and configuration, the extents, and the laws. -/
structure ModuleKept (ms ms' : ModuleSlots) (t t' : Tracker) : Prop where
  enabled : t'.record.enabled = t.record.enabled
  configured : t'.record.configured = t.record.configured
  extents : ms'.slots.map Slot.extent = ms.slots.map Slot.extent
  lawful : slotsLawful ms t → trackerLawful t → slotsLawful ms' t' ∧ trackerLawful t'

theorem ModuleKept.refl (ms : ModuleSlots) (t : Tracker) : ModuleKept ms ms t t := ⟨rfl, rfl, rfl, And.intro⟩

/-- An operation on slots and trackers. -/
theorem KeepsLaws.of_modules {ts : Vector Tracker 4} {st : SlotStore}
    (h : ∀ m : ModuleId, ModuleKept s.store.mods[m] st.mods[m] s.trackers[m] ts[m]) :
    KeepsLaws s { s with trackers := ts, store := st } where
  attention := id
  event := id
  gain := id
  handoff := id
  zoom := id
  slot := by
    rintro ⟨hm, hf⟩
    refine ⟨fun m => (h m).lawful (hm m).1 (hm m).2, fun f e m n hl => ?_⟩
    dsimp only
    rw [(h m).enabled]
    exact hf f e m n hl
  window := by
    rintro ⟨hc, hv⟩
    refine ⟨fun m => ?_, hv⟩
    dsimp only
    rw [(h m).enabled, (h m).configured]
    exact hc m
  layout := by
    refine layout_of_sublist rfl fun l => ?_
    cases l
    case slots m =>
      show List.Sublist (st.mods[m].slots.map Slot.extent) (s.store.mods[m].slots.map Slot.extent)
      rw [(h m).extents]
    all_goals exact List.Sublist.refl _
  fetch := id
  progress := id

/-- An operation on the slots and the tracker of one module. -/
theorem KeepsLaws.of_module (m : ModuleId) {f : ModuleSlots → ModuleSlots} {g : Tracker → Tracker} {o : Word}
    (h : ModuleKept s.store.mods[m] (f s.store.mods[m]) s.trackers[m] (g s.trackers[m])) :
    KeepsLaws s { s with
      trackers := upd s.trackers m g, store := { mods := upd s.store.mods m f, closeOrder := o } } := by
  refine KeepsLaws.of_modules fun k => ?_
  dsimp only
  rw [upd_get, upd_get]
  split
  · rename_i e; exact e ▸ h
  · exact .refl _ _

/-- An operation on the slots of one module. -/
theorem keepsLaws_modSlots (m : ModuleId) {f : ModuleSlots → ModuleSlots}
    (he : (f s.store.mods[m]).slots.map Slot.extent = s.store.mods[m].slots.map Slot.extent)
    (hl : ∀ t, slotsLawful s.store.mods[m] t → slotsLawful (f s.store.mods[m]) t) : KeepsLaws s (s.modSlots m f) := by
  refine KeepsLaws.of_modules (ts := s.trackers) (st := { s.store with mods := upd s.store.mods m f }) fun k => ?_
  dsimp only
  rw [upd_get]
  split
  · rename_i e; subst e; exact ⟨rfl, rfl, he, fun h ht => ⟨hl _ h, ht⟩⟩
  · exact .refl _ _

/-- An operation on the tracker of one module. -/
theorem keepsLaws_modTracker (m : ModuleId) {g : Tracker → Tracker}
    (h : ModuleKept s.store.mods[m] s.store.mods[m] s.trackers[m] (g s.trackers[m])) :
    KeepsLaws s (s.modTracker m g) := by
  refine KeepsLaws.of_modules (ts := upd s.trackers m g) (st := s.store) fun k => ?_
  rw [upd_get]
  split
  · rename_i e; exact e ▸ h
  · exact .refl _ _

end

/-! ### The Agent -/

theorem keepsLaws_atTime (s : State) (t : Time) : KeepsLaws s (s.atTime t) := ⟨id, id, id, id, id, id, id, id, id, id⟩

/-- A line set from flags and mask is lawful (R166). -/
theorem attentionLaw_of_line {s : State} (h : s.agent.attention = attentionOf s.agent.events s.agent.mask) :
    AttentionLaw s := by
  unfold AttentionLaw
  rw [h]
  exact attentionOf_iff _ _

/-- What R163 and R165 say of one kind. -/
def EventState.lawful (e : EventState) : Prop :=
  e.count ≤ 255 ∧ (e.flag = true ↔ 0 < e.count) ∧ (e.flag = false → e.detail = .zero)

theorem eventLawful_raised (e : EventState) (d : EventDetail) : (e.raised d).lawful := by
  refine ⟨Nat.min_le_right _ _, ⟨fun _ => ?_, fun _ => rfl⟩, nofun⟩
  simp [EventState.raised]

theorem eventLawful_clear : EventState.clear.lawful := ⟨Nat.zero_le _, by simp [EventState.clear], fun _ => rfl⟩

theorem keepsLaws_raise (s : State) (r : Raise) : KeepsLaws s (s.raise r) := by
  refine KeepsLaws.of_agent (fun _ => attentionLaw_of_line rfl) (fun h n => ?_) id id
  change (upd s.agent.events r.kind.index (·.raised (r.detail s.time)))[n].lawful
  rw [upd_get]
  split
  · exact eventLawful_raised _ _
  · exact h n

theorem keepsLaws_raiseAll (s : State) (rs : List Raise) : KeepsLaws s (s.raiseAll rs) := .foldl _ keepsLaws_raise rs s

theorem keepsLaws_writeStatus (s : State) (q : Word) (k : Nat) (r : Reply) : KeepsLaws s (s.writeStatus q k r) :=
  .of_note rfl rfl rfl rfl

theorem keepsLaws_writeSnapshot (s : State) (c : SnapshotCause) : KeepsLaws s (s.writeSnapshot c) :=
  .of_note rfl rfl rfl rfl

theorem keepsLaws_addDump (s : State) (ws : List OwnWrite) : KeepsLaws s (s.addDump ws) := .of_note rfl rfl rfl rfl

theorem keepsLaws_agentWriteAnswer (s : State) (n : Nat) (b : Bool) : KeepsLaws s (s.agentWriteAnswer n b) :=
  .of_note rfl rfl rfl rfl

/-- No command in flight any more (R161). -/
theorem keepsLaws_land (s : State) : KeepsLaws s { s with agent := { s.agent with inFlight := none } } :=
  .of_agent id id (fun h => ⟨h.1, nofun⟩) fun _ => nofun

theorem keepsLaws_finishCommand (q : Word) (k : Nat) (b : Bool) {s : State} {e : Ended} (h : KeepsLaws s e.1) :
    KeepsLaws s (finishCommand q k b e) := by
  unfold finishCommand
  dsimp only
  split
  · exact (h.trans (keepsLaws_writeSnapshot ..)).trans (keepsLaws_writeStatus ..)
  · exact h.trans (keepsLaws_writeStatus ..)

theorem keepsLaws_finishTimed (q : Word) (k : Nat) (b : Bool) {s : State} {e : Ended} (h : KeepsLaws s e.1) :
    KeepsLaws s (finishTimed q k b e) :=
  (keepsLaws_finishCommand q k b (e := (e.1.raise (commandDoneRaise q k e.2), e.2)) (h.trans (keepsLaws_raise ..))).trans
    (keepsLaws_land _)

/-- The events after the named kinds are cleared, their entries written (R165). -/
theorem foldl_clearKind (g : Config) (ns : List (Fin 16)) (a : Agent) :
    ∃ ev, ns.foldl (fun a n => a.clearKind g n) a = { a with
        events := ev
        writes := a.writes ++ ns.map fun n =>
          { address := g.controlPage + (eventOffset + 16 * n.val), bytes := eventBytes .clear, answered := none } }
      ∧ ∀ n : Fin 16, ev[n] = if n ∈ ns then .clear else a.events[n] := by
  induction ns generalizing a with
  | nil => exact ⟨a.events, by simp, by simp⟩
  | cons k ns ih =>
    obtain ⟨ev, he, hev⟩ := ih (a.clearKind g k)
    have hk : (a.clearKind g k) = { a with
        events := a.events.set k .clear
        writes := a.writes ++
          [{ address := g.controlPage + (eventOffset + 16 * k.val), bytes := eventBytes .clear, answered := none }] } :=
      Agent.writeEvent_of_get g (a := { a with events := a.events.set k .clear }) (by simp)
    refine ⟨ev, ?_, fun n => ?_⟩
    · rw [List.foldl_cons, he, hk]
      simp
    · rw [hev n, hk]
      dsimp only
      rw [set_get]
      simp only [List.mem_cons]
      by_cases hn : n ∈ ns
      · simp [hn]
      · by_cases hkn : k = n
        · simp [hkn]
        · simp [hn, hkn, Ne.symm hkn]

theorem keepsLaws_clearEvents (mask : Word) (s : State) : KeepsLaws s (cmdClearEvents mask s).1 := by
  obtain ⟨ev, ha, hev⟩ :=
    foldl_clearKind s.cfg (allKinds.filter fun n => (maskArg mask).getLsbD n.val) s.agent
  unfold cmdClearEvents
  dsimp only
  rw [ha]
  refine KeepsLaws.of_agent (fun _ => attentionLaw_of_line rfl) (fun h n => ?_) id id
  change ev[n].lawful
  rw [hev n]
  split
  · exact eventLawful_clear
  · exact h n

theorem keepsLaws_setAttention (mask : Word) (s : State) : KeepsLaws s (cmdSetAttention mask s).1 :=
  .of_agent (fun _ => attentionLaw_of_line rfl) id id id

/-! ### Progress of the command in flight (R161) -/

/-- What R161 says of the progress of an operation in flight. -/
def Progress.lawful (op : InFlightOp) (p : Progress) : Prop :=
  p.answers.length = op.accesses ∧ p.issued ≤ op.accesses
    ∧ (∀ (j : Nat) (x : List Byte), p.answers[j]? = some (some x) → j < p.issued ∧ (op.kind ≠ 8 → x.length = 8))
    ∧ ∃ j : Nat, p.answers[j]? = some none

theorem progressLaw_iff (s : State) :
    ProgressLaw s ↔ ∀ f, s.agent.inFlight = some f → f.progress.lawful f.op := Iff.rfl

/-- The progress of a command at its trigger is lawful where it makes an access. -/
theorem progress_start {op : InFlightOp} (h : 0 < op.accesses) : op.progress.lawful op := by
  refine ⟨List.length_replicate, ?_, fun j x hx => ?_, 0, ?_⟩
  · cases op <;> simp [InFlightOp.progress, InFlightOp.issuedAtStart, InFlightOp.accesses]
  · have := List.eq_of_mem_replicate (List.mem_of_getElem? hx)
    cases this
  · simp [InFlightOp.progress, h]

/-- What an event leaves as answers of a command in flight. -/
theorem getElem?_receive {n : Nat} (p : Progress) (a : AccessAnswers n) (buf : List Byte) (j : Nat) :
    (p.receive a buf).answers[j]?
      = p.answers[j]?.map fun x => if p.fresh a j then some ((buf.drop (8 * j)).take 8) else x :=
  List.getElem?_mapIdx

/-- A fresh answer is one of an issued access that the event names. -/
theorem fresh_iff {n : Nat} (p : Progress) (a : AccessAnswers n) (j : Nat) :
    p.fresh a j = true ↔ a.which.getLsbD j = true ∧ j < p.issued ∧ p.answers[j]? = some none := by
  simp [Progress.fresh, and_assoc]

/-- Not every access answered: one at least is not. -/
theorem exists_unanswered {p : Progress} (h : p.complete = false) : ∃ j : Nat, p.answers[j]? = some none := by
  simp only [Progress.complete, List.all_eq_false] at h
  obtain ⟨x, hx, hn⟩ := h
  rw [Option.not_isSome_iff_eq_none] at hn
  exact List.mem_iff_getElem?.1 (hn ▸ hx)

/-- Answers received, not all of them, leave a lawful progress. -/
theorem progress_receive {n : Nat} {op : InFlightOp} {p : Progress} {a : AccessAnswers n} {buf : List Byte}
    (hb : op.kind ≠ 8 → 8 * n ≤ buf.length) (hc : (p.receive a buf).complete = false) (h : p.lawful op) :
    (p.receive a buf).lawful op := by
  obtain ⟨hl, hi, ha, -⟩ := h
  refine ⟨(length_receive ..).trans hl, hi, fun j x hx => ?_, exists_unanswered hc⟩
  rw [getElem?_receive, Option.map_eq_some_iff] at hx
  obtain ⟨y, hy, hx⟩ := hx
  split at hx
  · rename_i hf
    obtain ⟨hw, hj, -⟩ := (fresh_iff ..).1 hf
    refine ⟨hj, fun hk => ?_⟩
    cases hx
    have hjn : j < n := by
      by_contra hge
      rw [BitVec.getLsbD_of_ge _ _ (by omega)] at hw
      cases hw
    have := hb hk
    rw [List.length_take, List.length_drop]
    omega
  · subst hx
    exact ha j x hy

theorem progress_issueTo {op : InFlightOp} {p : Progress} (n : Nat) (h : p.lawful op) : (p.issueTo n).lawful op := by
  obtain ⟨hl, hi, ha, hn⟩ := h
  refine ⟨hl, ?_, fun j x hx => ⟨Nat.lt_of_lt_of_le (ha j x hx).1 (Nat.le_max_left _ _), (ha j x hx).2⟩, hn⟩
  exact Nat.max_le.2 ⟨hi, hl ▸ Nat.min_le_right _ _⟩

theorem keepsLaws_keepProgress {s : State} {f : InFlight} {p : Progress} (hf : s.agent.inFlight = some f)
    (h : f.progress.lawful f.op → p.lawful f.op) : KeepsLaws s (s.keepProgress f p) := by
  refine KeepsLaws.of_agent id id (fun hs => ⟨hs.1, ?_⟩) (fun hs => ?_)
  · rintro g hg m n hl
    cases hg
    exact hs.2 f hf m n hl
  · rintro g hg
    cases hg
    exact h (hs f hf)

/-- A command goes in flight: it makes an access, and a LOAD_SLOTS is of a disabled module and 2 to 8 entries (R49). -/
theorem keepsLaws_start {s : State} {q : Word} {k : Nat} {op : InFlightOp} (ha : 0 < op.accesses)
    (hl : ∀ m n, op.loads = some (m, n) → s.trackers[m].record.enabled = false ∧ 2 ≤ n ∧ n ≤ 8) :
    KeepsLaws s (startTimed q k s (.started op)) where
  attention := id
  event := id
  gain := id
  handoff := id
  zoom := id
  slot := fun h => ⟨h.1, fun f hf m n e => by cases hf; exact hl m n e⟩
  window := id
  layout := id
  fetch := fun h e r hr => readLawful_mono (Nat.le_succ _) (h e r hr)
  progress := fun _ f hf => by cases hf; exact progress_start ha

/-! ### Queues and the Composer's table -/

theorem keepsLaws_enqueue (s : State) (r : Byte) : KeepsLaws s (s.enqueue r) := .of_traffic rfl rfl (Nat.le_succ _)
theorem keepsLaws_answer (s : State) (p : Nat) (a : Answer) : KeepsLaws s (s.answer p a) := .of_traffic rfl rfl (Nat.le_refl _)
theorem keepsLaws_forward (s : State) (p d : Nat) (x : Transaction) : KeepsLaws s (s.forward p d x) :=
  .of_traffic rfl rfl (Nat.le_refl _)
theorem keepsLaws_deliver (s : State) : KeepsLaws s s.deliver := .of_traffic rfl rfl (Nat.le_refl _)
theorem keepsLaws_freeEntry (s : State) (e : EntryId) : KeepsLaws s (s.freeEntry e) :=
  .of_entry (w := s.comp.withdrawn) (Nat.le_refl _) fun _ => nofun
theorem keepsLaws_takeTag (s : State) (e : EntryId) : KeepsLaws s (s.takeTag e) :=
  .of_entry (w := s.comp.withdrawn) (Nat.le_refl _) fun h r hr => h e r hr
theorem keepsLaws_putRead {s : State} {e : EntryId} {r : ReadEntry} (h : readLawful s.serial r) :
    KeepsLaws s (s.putRead e r) :=
  .of_entry (w := s.comp.withdrawn) (Nat.le_refl _) fun _ _ hr => Option.some.inj hr ▸ h

/-- A view read that waits for its output frame to open. -/
theorem readLawful_waiting (n : Nat) (q : Byte) (p : Nat) (v : ViewId) (k : ReadKind) (o l : Nat) (f : FrameRef) :
    readLawful n (newRead q p v k o l f .waitingOpen) :=
  ⟨by simp [newRead], nofun, by simp [newRead], nofun, nofun, nofun, fun _ => ⟨rfl, rfl⟩, fun _ _ => rfl⟩

/-! ### Fetches issued (R149) -/

/-- The fetches that a list of specifications becomes, with identities from `n` on. -/
def issuedFrom (t : Time) (d n : Nat) (ys : List FetchSpec) : List Fetch :=
  ys.mapIdx fun i y => { id := n + i, spec := y, deadline := laterBy (n + i) t d }

@[simp] theorem length_issuedFrom (t : Time) (d n : Nat) (ys : List FetchSpec) : (issuedFrom t d n ys).length = ys.length := by
  simp [issuedFrom]

theorem issuedFrom_cons (t : Time) (d n : Nat) (y : FetchSpec) (ys : List FetchSpec) :
    issuedFrom t d n (y :: ys) = { id := n, spec := y, deadline := laterBy n t d } :: issuedFrom t d (n + 1) ys := by
  simp only [issuedFrom, List.mapIdx_cons, Nat.add_zero, Nat.add_assoc, Nat.add_comm 1]

/-- How many fetches an entry issues: as many as may be outstanding, and at most `fuel`. -/
def ReadEntry.room (r : ReadEntry) (fuel : Nat) : Nat := min fuel (64 - r.outstanding.length)

/-- What issuing does: the first waiting fetches become outstanding, with serial numbers in order as identities. -/
theorem issue_eq (t : Time) (d fuel n : Nat) (r : ReadEntry) :
    r.issue t d fuel n =
      ({ r with
          outstanding := r.outstanding ++ issuedFrom t d n (r.toIssue.take (r.room fuel))
          toIssue := r.toIssue.drop (r.room fuel) },
        n + (r.toIssue.take (r.room fuel)).length) := by
  induction fuel generalizing n r with
  | zero => simp [ReadEntry.issue, ReadEntry.room, issuedFrom]
  | succ fuel ih =>
    unfold ReadEntry.issue
    split
    · rename_i h
      simp only [h, List.take_nil, List.drop_nil, List.length_nil, Nat.add_zero]
      rw [issuedFrom, List.mapIdx_nil, List.append_nil, ← h]
    · rename_i x xs h
      split
      · rename_i hlt
        have hroom : r.room (fuel + 1)
            = ({ r with
                  outstanding := r.outstanding ++ [{ id := n, spec := x, deadline := laterBy n t d }]
                  toIssue := xs } : ReadEntry).room fuel + 1 := by
          simp only [ReadEntry.room, List.length_append, List.length_singleton]
          omega
        rw [ih, hroom, h]
        simp only [List.take_succ_cons, List.drop_succ_cons, List.length_cons, issuedFrom_cons, List.append_assoc,
          List.singleton_append]
        congr 1
        omega
      · rename_i hge
        have hroom : r.room (fuel + 1) = 0 := by simp only [ReadEntry.room]; omega
        simp [hroom, issuedFrom]

/-- Identities given out from `n` on are new and differ. -/
theorem issuedFrom_ids (t : Time) (d n : Nat) (ys : List FetchSpec) :
    ((issuedFrom t d n ys).map (·.id)).Nodup
      ∧ ∀ f ∈ issuedFrom t d n ys, n ≤ f.id ∧ f.id < n + ys.length := by
  induction ys generalizing n with
  | nil => exact ⟨List.nodup_nil, nofun⟩
  | cons y ys ih =>
    obtain ⟨hn, hb⟩ := ih (n + 1)
    rw [issuedFrom_cons]
    refine ⟨List.nodup_cons.2 ⟨fun hm => ?_, hn⟩, fun f hf => ?_⟩
    · obtain ⟨f, hf, he⟩ := List.mem_map.1 hm
      have := (hb f hf).1
      dsimp only at he
      omega
    · rw [List.length_cons]
      rcases List.mem_cons.1 hf with rfl | hf
      · dsimp only; omega
      · have := hb f hf; omega

/-- A read that issues as far as it may is lawful after it: FETCHING with something to fetch, or COMPLETE with nothing. -/
theorem readLawful_issue {t : Time} {d fuel n : Nat} {r : ReadEntry} (hlen : r.outstanding.length ≤ 64)
    (hnd : (r.outstanding.map (·.id)).Nodup) (hlt : ∀ f ∈ r.outstanding, f.id < n)
    (hfuel : r.toIssue ≠ [] → 64 ≤ r.outstanding.length + fuel) (hframe : ∀ p, r.frame ≠ .awaiting p)
    (hst : r.state = .fetching ∧ (r.outstanding ≠ [] ∨ r.toIssue ≠ [])
      ∨ r.state = .complete ∧ r.outstanding = [] ∧ r.toIssue = []) :
    readLawful (r.issue t d fuel n).2 (r.issue t d fuel n).1 := by
  rw [issue_eq]
  generalize hk : r.room fuel = k
  have hkb : k ≤ 64 - r.outstanding.length := hk ▸ Nat.min_le_right _ _
  obtain ⟨hnd', hb⟩ := issuedFrom_ids t d n (r.toIssue.take k)
  refine ⟨?_, fun h => ?_, ?_, fun f hf => ?_, fun hs => ?_, fun hs => ?_, fun hs => ?_, fun p hp => absurd hp (hframe p)⟩
  · simp only [List.length_append, length_issuedFrom, List.length_take]
    omega
  · simp only [List.length_append, length_issuedFrom, List.length_take]
    have hne : r.toIssue ≠ [] := by rintro h0; simp [h0] at h
    have hlong : k < r.toIssue.length := by
      by_contra hc
      exact h (List.drop_eq_nil_of_le (Nat.le_of_not_lt hc))
    have hf := hfuel hne
    simp only [ReadEntry.room] at hk
    omega
  · rw [List.map_append, List.nodup_append]
    refine ⟨hnd, hnd', fun a ha b hb' hab => ?_⟩
    obtain ⟨f, hf, rfl⟩ := List.mem_map.1 ha
    obtain ⟨g, hg, rfl⟩ := List.mem_map.1 hb'
    have := hlt f hf
    have := (hb g hg).1
    omega
  · rcases List.mem_append.1 hf with hf | hf
    · have := hlt f hf; dsimp only; omega
    · exact (hb f hf).2
  · rcases hst with ⟨-, h | h⟩ | ⟨h, -⟩
    · simp [h]
    · intro h0
      obtain ⟨h1, h2⟩ := List.append_eq_nil_iff.1 h0
      have hf := hfuel h
      have := congrArg List.length h2
      simp only [length_issuedFrom, List.length_take, List.length_nil] at this
      have := List.length_pos_of_ne_nil h
      simp only [ReadEntry.room, h1, List.length_nil] at hk hf
      omega
    · exact absurd (hs.symm.trans h) (by decide)
  · rcases hst with ⟨h, -⟩ | ⟨-, h1, h2⟩
    · exact absurd (hs.symm.trans h) (by decide)
    · simp [h1, h2, issuedFrom]
  · rcases hst with ⟨h, -⟩ | ⟨h, -⟩ <;> exact absurd (hs.symm.trans h) (by decide)

theorem keepsLaws_issueFetches {s : State} {e : EntryId} {r : ReadEntry} {fuel : Nat}
    (h : FetchLaw s → readLawful (r.issue s.time s.comp.views[r.view].timeout fuel s.serial).2
      (r.issue s.time s.comp.views[r.view].timeout fuel s.serial).1) : KeepsLaws s (s.issueFetches e r fuel) :=
  .of_entry (w := s.comp.withdrawn) (issue_serial_le ..) fun hs _ hr => Option.some.inj hr ▸ h hs

/-- A read with nothing fetched begins its fetches (R147 to R149). -/
theorem keepsLaws_beginFetch {s : State} {e : EntryId} {r : ReadEntry} {f : FrameName} {o : OutputFrame}
    (h : FetchLaw s → r.outstanding = [] ∧ r.toIssue = []) : KeepsLaws s (s.beginFetch e r f o) := by
  unfold State.beginFetch
  split
  · refine .of_entry (w := s.comp.withdrawn) (Nat.le_refl _) fun hs r' hr => ?_
    obtain ⟨h1, h2⟩ := h hs
    cases hr
    exact ⟨by simp [h1], by simp [h2], by simp [h1], by simp [h1], nofun, fun _ => h1, nofun, nofun⟩
  · refine keepsLaws_issueFetches fun hs => ?_
    obtain ⟨h1, -⟩ := h hs
    exact readLawful_issue (by simp [h1]) (by simp [h1]) (by simp [h1]) (by simp) nofun (.inl ⟨rfl, .inr (by simp)⟩)

end Sys2Proof.Machine
end

section
/-! What the operations of the View Composer and a pacing advance keep: each law of the device. -/

namespace Sys2Proof.Machine

-- Declaration after declaration: elaborated side by side, those of the joined text need more memory than the check has.
set_option Elab.async false

/-! ### Holders and pins -/

/-- A change of one slot that leaves its extent leaves the extents of the list. -/
theorem map_extent_modify {f : Slot → Slot} (hf : ∀ y, (f y).extent = y.extent) (i : Nat) (l : List Slot) :
    (l.modify i f).map Slot.extent = l.map Slot.extent := by
  apply List.ext_getElem?
  intro j
  rw [List.getElem?_map, List.getElem?_map, getElem?_modify_of]
  split
  · rw [Option.map_map]
    exact congrArg (Option.map · _) (funext hf)
  · rfl

/-- A change of every slot that leaves its extent leaves the extents of the list. -/
theorem map_extent_map {f : Slot → Slot} (hf : ∀ y, (f y).extent = y.extent) (l : List Slot) :
    (l.map f).map Slot.extent = l.map Slot.extent := by
  rw [List.map_map]
  exact congrArg (List.map · l) (funext hf)

theorem keepsLaws_hold (s : State) (m : ModuleId) (i : Nat) (x : Holder) : KeepsLaws s (s.modSlots m (·.hold i x)) :=
  keepsLaws_modSlots m (map_extent_modify (Slot.hold_extent · x) i _) fun _ => slotsLawful_hold i x

theorem keepsLaws_unholdAll (s : State) (x : Holder) : KeepsLaws s (s.unholdAll x) := by
  refine KeepsLaws.of_modules (ts := s.trackers) (st := (s.unholdAll x).store) fun m => ?_
  rw [unholdAll_mods]
  exact ⟨rfl, rfl, map_extent_map (fun y => Slot.unhold_extent y x) _, fun h ht => ⟨slotsLawful_unhold x h, ht⟩⟩

theorem keepsLaws_pin (s : State) (b : Bool) (m : ModuleId) (x : Holder) : KeepsLaws s (s.pin b m x).1 := by
  unfold State.pin State.pinFrozen State.pinNewest
  split <;> split
  · exact keepsLaws_hold ..
  · exact .refl s
  · exact keepsLaws_hold ..
  · exact .refl s

/-! ### The advance -/

theorem keepsLaws_advance (s : State) (a : Advance) : KeepsLaws s (s.advance a) := by
  cases hf : s.ctl.frozen with
  | true =>
    unfold State.advance
    rw [if_pos hf]
    exact .refl s
  | false =>
    rw [advance_eq hf]
    refine ((KeepsLaws.of_ctl (fun h m => ?_) (fun h => ?_) (fun h => ?_)).trans (keepsLaws_raiseAll ..)).trans
      (keepsLaws_writeSnapshot ..)
    · have hg := gainsOk_advanceStages (s := s) (a := a) (fun k => ⟨(h k).1, (h k).2.1⟩) m
      exact ⟨hg.1, hg.2, by rw [Controller.publish, publication_gain]; exact hg.1⟩
    · rw [handoffLaw_iff] at h ⊢
      exact handoff_advanceStages h.1 h.2
    · exact zoomOk_advanceStages h

/-! ### Output frames (R130 to R137) -/

theorem setFrame_service (w : View) (f : FrameName) (o : Option OutputFrame) :
    (w.setFrame f o).enabled = w.enabled ∧ (w.setFrame f o).configured = w.configured := by
  cases f <;> exact ⟨rfl, rfl⟩

theorem keepsLaws_setFrame (s : State) (v : ViewId) (f : FrameName) (o : View → Option OutputFrame) :
    KeepsLaws s (s.modView v fun w => w.setFrame f (o w)) :=
  keepsLaws_modView v _ fun w => setFrame_service w f (o w)

theorem keepsLaws_beginOpen (s : State) (v : ViewId) : KeepsLaws s (s.beginOpen v) := by
  have hc : KeepsLaws s (s.counted v) := keepsLaws_modView v _ fun _ => ⟨rfl, rfl⟩
  unfold State.beginOpen
  dsimp only
  split
  · exact hc.trans (keepsLaws_advance ..)
  · exact hc

theorem keepsLaws_openPart (s : State) (v : ViewId) (l : Published) (x : Holder) (m : Option ModuleId) :
    KeepsLaws s (s.openPart v l x m).1 := by
  cases m with
  | none => exact .refl s
  | some m => exact keepsLaws_pin s l.frozen m x

theorem keepsLaws_closeFrame (s : State) (v : ViewId) (f : FrameName) : KeepsLaws s (s.closeFrame v f) :=
  (keepsLaws_unholdAll s _).trans (keepsLaws_setFrame _ v f fun _ => none)

theorem keepsLaws_closeIfDrained (s : State) (v : ViewId) (f : FrameName) : KeepsLaws s (s.closeIfDrained v f) := by
  unfold State.closeIfDrained
  split
  · exact keepsLaws_closeFrame ..
  · exact .refl s

theorem keepsLaws_drainOld (s : State) (v : ViewId) (f : FrameName) : KeepsLaws s (s.drainOld v f) := by
  unfold State.drainOld
  split
  · exact (keepsLaws_setFrame s v f fun w => (w.frame f).map OutputFrame.drain).trans (keepsLaws_closeIfDrained ..)
  · exact .refl s

theorem keepsLaws_openFrame (s : State) (v : ViewId) : KeepsLaws s (s.openFrame v) := by
  unfold State.openFrame
  dsimp only
  have hparts := ((keepsLaws_beginOpen s v).trans (keepsLaws_openPart ..)).trans
    (keepsLaws_openPart ((s.beginOpen v).openPart v (s.beginOpen v).ctl.published
      (.frame v (s.beginOpen v).comp.views[v].nextName) (s.beginOpen v).ctl.published.phase.serving).1 v
      (s.beginOpen v).ctl.published (.frame v (s.beginOpen v).comp.views[v].nextName)
      (s.beginOpen v).ctl.published.phase.second)
  split
  · exact ((hparts.trans (keepsLaws_setFrame _ v _ fun _ => some _)).trans (keepsLaws_drainOld ..)).trans
      (keepsLaws_raise ..)
  · exact (hparts.trans (keepsLaws_setFrame _ v _ fun _ => some _)).trans (keepsLaws_drainOld ..)

/-! ### Waiting entries released (R147) -/

theorem perm_insertPlace (p : Nat × EntryId) (l : List (Nat × EntryId)) : (insertPlace p l).Perm (p :: l) := by
  induction l with
  | nil => exact .refl _
  | cons x l ih =>
    unfold insertPlace
    split
    · exact .refl _
    · exact (ih.cons x).trans (.swap ..)

/-- Each entry is listed once. -/
theorem nodup_entriesWith (s : State) (test : ReadEntry → Bool) : ((s.entriesWith test).map (·.2)).Nodup := by
  unfold State.entriesWith
  have hperm : ∀ l : List (Nat × EntryId), (l.foldr insertPlace []).Perm l := by
    intro l
    induction l with
    | nil => exact .refl _
    | cons p l ih => exact (perm_insertPlace ..).trans (ih.cons p)
  rw [((hperm _).map _).nodup_iff, List.map_filterMap]
  refine List.Nodup.filterMap (fun e e' b h h' => ?_) (by decide)
  simp only [Option.mem_def, Option.map_eq_some_iff, Option.bind_eq_some_iff] at h h'
  obtain ⟨x, ⟨r, -, hx⟩, rfl⟩ := h
  obtain ⟨x', ⟨r', -, hx'⟩, he⟩ := h'
  split at hx
  · split at hx'
    · cases hx; cases hx'; exact he.symm
    · cases hx'
  · cases hx

/-- The read of an entry waits for an output frame that is not open yet. -/
def State.awaits (s : State) (e : EntryId) : Prop :=
  ∀ r, s.comp.table[e].read = some r → ∃ p, r.frame = .awaiting p

/-- A waiting read has fetched nothing. -/
theorem idle_of_awaits {s : State} {e : EntryId} (h : s.awaits e) {r : ReadEntry} (hr : s.comp.table[e].read = some r)
    (hl : FetchLaw s) : r.outstanding = [] ∧ r.toIssue = [] := by
  obtain ⟨p, hp⟩ := h r hr
  obtain ⟨-, -, -, -, -, -, hw, ha⟩ := hl e r hr
  exact hw (ha p hp)

theorem keepsLaws_releaseEntry {s : State} {e : EntryId} (f : FrameName) (o : OutputFrame) (h : s.awaits e) :
    KeepsLaws s (State.releaseEntry f o s e) := by
  unfold State.releaseEntry
  split
  · exact .refl s
  · rename_i r hr
    split
    · exact keepsLaws_beginFetch fun hl => idle_of_awaits h hr hl
    · exact (keepsLaws_answer ..).trans (keepsLaws_freeEntry ..)
    · exact .refl s

theorem beginFetch_table_ne (s : State) {e e' : EntryId} (h : e ≠ e') (r : ReadEntry) (f : FrameName) (o : OutputFrame) :
    (s.beginFetch e r f o).comp.table[e'] = s.comp.table[e'] := by
  unfold State.beginFetch
  split
  · exact upd_get_ne _ h _
  · exact upd_get_ne _ h _

theorem releaseEntry_table_ne (f : FrameName) (o : OutputFrame) (s : State) {e e' : EntryId} (h : e ≠ e') :
    (State.releaseEntry f o s e).comp.table[e'] = s.comp.table[e'] := by
  unfold State.releaseEntry
  split
  · rfl
  · split
    · exact beginFetch_table_ne s h ..
    · exact upd_get_ne _ h _
    · rfl

theorem keepsLaws_releaseEntries (f : FrameName) (o : OutputFrame) {es : List EntryId} (hn : es.Nodup) {s : State}
    (h : ∀ e ∈ es, s.awaits e) : KeepsLaws s (es.foldl (State.releaseEntry f o) s) := by
  induction es generalizing s with
  | nil => exact .refl s
  | cons e es ih =>
    obtain ⟨he, hn⟩ := List.nodup_cons.1 hn
    refine (keepsLaws_releaseEntry f o (h e List.mem_cons_self)).trans (ih hn fun e' he' r hr => ?_)
    rw [releaseEntry_table_ne f o s fun h0 : e = e' => he (by rw [h0]; exact he')] at hr
    exact h e' (List.mem_cons_of_mem _ he') r hr

theorem keepsLaws_releaseWaiting (s : State) (v : ViewId) (p : Nat) (f : FrameName) (o : OutputFrame) :
    KeepsLaws s (s.releaseWaiting v p f o) := by
  refine keepsLaws_releaseEntries f o (nodup_entriesWith ..) fun e he r hr => ?_
  obtain ⟨x, hx, rfl⟩ := List.mem_map.1 he
  obtain ⟨r', hr', ht, -⟩ := (mem_entriesWith ..).1 hx
  rw [hr] at hr'
  cases hr'
  rw [Bool.and_eq_true, beq_iff_eq, beq_iff_eq] at ht
  exact ⟨p, ht.2⟩

theorem keepsLaws_openHeader (s : State) (v : ViewId) (p : Nat) : KeepsLaws s (s.openHeader v p) := by
  unfold State.openHeader
  dsimp only
  split
  · exact keepsLaws_openFrame s v
  · split
    · exact keepsLaws_openFrame s v
    · exact (keepsLaws_openFrame s v).trans (keepsLaws_releaseWaiting ..)

theorem keepsLaws_openWaiting (v : ViewId) (ps : List Nat) (s : State) : KeepsLaws s (openWaiting v ps s) := by
  induction ps generalizing s with
  | nil => exact .refl s
  | cons p ps ih =>
    unfold openWaiting
    split
    · exact .refl s
    · exact (keepsLaws_openHeader s v p).trans (ih _)

theorem keepsLaws_afterLeave (s : State) (v : ViewId) : KeepsLaws s (s.afterLeave v) :=
  ((keepsLaws_closeIfDrained ..).trans (keepsLaws_closeIfDrained ..)).trans (keepsLaws_openWaiting ..)

/-! ### Acceptance of view reads (R129, R131, R143, R146) -/

theorem keepsLaws_reportUnopened (s : State) (v : ViewId) : KeepsLaws s (s.reportUnopened v) := by
  unfold State.reportUnopened
  split
  · exact .refl s
  · exact (keepsLaws_modView v (fun w => { w with unopenedReported := true }) fun _ => ⟨rfl, rfl⟩).trans
      (keepsLaws_raise ..)

theorem keepsLaws_answerEmpty (s : State) (v : ViewId) (p o n : Nat) : KeepsLaws s (s.answerEmpty v p o n) :=
  (keepsLaws_answer s p _).trans (keepsLaws_reportUnopened _ v)

theorem keepsLaws_acceptHeader (s : State) (q : Byte) (e : EntryId) (v : ViewId) (p n : Nat) :
    KeepsLaws s (s.acceptHeader q e v p n) := by
  unfold State.acceptHeader
  split
  · dsimp only
    split
    · exact (keepsLaws_openFrame s v).trans (keepsLaws_answer ..)
    · exact keepsLaws_openFrame s v
  · exact keepsLaws_putRead (readLawful_waiting ..)

theorem keepsLaws_acceptOnOpen (s : State) (q : Byte) (e : EntryId) (v : ViewId) (p o n : Nat) :
    KeepsLaws s (s.acceptOnOpen q e v p o n) := by
  unfold State.acceptOnOpen
  split
  · exact keepsLaws_answerEmpty ..
  · split
    · exact keepsLaws_answerEmpty ..
    · split
      · exact keepsLaws_answer ..
      · exact keepsLaws_beginFetch fun _ => ⟨rfl, rfl⟩

theorem keepsLaws_acceptViewRead (s : State) (q : Byte) (v : ViewId) (p o n : Nat) :
    KeepsLaws s (s.acceptViewRead q v p o n) := by
  unfold State.acceptViewRead
  split
  · exact .refl s
  · rename_i e _
    dsimp only
    apply (keepsLaws_takeTag s e).trans
    split
    · exact keepsLaws_acceptHeader ..
    · split
      · exact keepsLaws_putRead (readLawful_waiting ..)
      · split
        · exact keepsLaws_acceptOnOpen ..
        · exact keepsLaws_answerEmpty ..

/-! ### Answers to fetches, failures, completions (R150 to R154) -/

theorem keepsLaws_lateAnswer (s : State) (n : Nat) : KeepsLaws s (s.lateAnswer n) :=
  ⟨id, id, id, id, id, id, id, id, id, id⟩

theorem keepsLaws_failEntry (s : State) (e : EntryId) (r : ReadEntry) (m : ModuleId) (k : Nat) :
    KeepsLaws s (s.failEntry e r m k) := by
  unfold State.failEntry
  dsimp only
  refine KeepsLaws.trans (((keepsLaws_answer s r.place .error).trans (keepsLaws_raise _ _)).trans
    (KeepsLaws.of_entry (e := e) (f := fun x => { x with read := none })
      (w := s.comp.withdrawn ++ withdraw e s.comp.table[e].tag r) (Nat.le_refl _) fun _ => nofun))
    (keepsLaws_afterLeave _ r.view)

/-- One fetch of different identities is outstanding no more. -/
theorem length_drop {r : ReadEntry} {f : Fetch} (hn : (r.outstanding.map (·.id)).Nodup) (hf : f ∈ r.outstanding) :
    (r.drop f).outstanding.length + 1 = r.outstanding.length := by
  have hids : (r.drop f).outstanding.map (·.id) = (r.outstanding.map (·.id)).erase f.id := by
    rw [hn.erase_eq_filter, List.filter_map]
    rfl
  have hlen := List.length_erase_add_one (List.mem_map_of_mem (f := (·.id)) hf)
  rw [← hids, List.length_map, List.length_map] at hlen
  exact hlen

/-- What a settled read is. -/
theorem settle_state (r : ReadEntry) (h : r.state = .fetching) :
    r.settle.state = .fetching ∧ (r.settle.outstanding ≠ [] ∨ r.settle.toIssue ≠ [])
      ∨ r.settle.state = .complete ∧ r.settle.outstanding = [] ∧ r.settle.toIssue = [] := by
  unfold ReadEntry.settle
  split
  · rename_i he
    rw [Bool.and_eq_true, List.isEmpty_iff, List.isEmpty_iff] at he
    exact .inr ⟨rfl, he⟩
  · rename_i he
    rw [Bool.and_eq_true, List.isEmpty_iff, List.isEmpty_iff, not_and_or] at he
    exact .inl ⟨h, he⟩

theorem settle_rest (r : ReadEntry) :
    r.settle.outstanding = r.outstanding ∧ r.settle.toIssue = r.toIssue ∧ r.settle.frame = r.frame := by
  unfold ReadEntry.settle
  split <;> exact ⟨rfl, rfl, rfl⟩

theorem keepsLaws_receiveFetch {s : State} {e : EntryId} {r : ReadEntry} {f : Fetch} (p : Payload)
    (hr : s.comp.table[e].read = some r) (hs : r.state = .fetching) (hf : f ∈ r.outstanding) :
    KeepsLaws s (s.receiveFetch e r f p) := by
  refine keepsLaws_issueFetches fun hl => ?_
  obtain ⟨hlen, hwait, hnd, hlt, -, -, -, hopen⟩ := hl e r hr
  obtain ⟨ho, ht, hfr⟩ := settle_rest (r.receive f p)
  have hsub : (r.drop f).outstanding.Sublist r.outstanding := List.filter_sublist
  have hdrop := length_drop hnd hf
  refine readLawful_issue ?_ ?_ (fun g hg => ?_) (fun hne => ?_) (fun k hk => ?_) (settle_state _ hs)
  · rw [ho]; exact hsub.length_le.trans hlen
  · rw [ho]; exact hnd.sublist (hsub.map _)
  · rw [ho] at hg; exact hlt g (hsub.mem hg)
  · rw [ht] at hne
    rw [ho]
    have := hwait hne
    change 64 ≤ (r.drop f).outstanding.length + 1
    omega
  · rw [hfr] at hk
    exact absurd (hs.symm.trans (hopen k hk)) (by decide)

theorem keepsLaws_fetchAnswer (s : State) (e : EntryId) (g : Byte) (n : Nat) (a : MemAnswer) :
    KeepsLaws s (s.fetchAnswer e g n a) := by
  unfold State.fetchAnswer
  split
  · exact keepsLaws_lateAnswer ..
  · rename_i r hr
    split
    · rename_i hc
      split
      · exact keepsLaws_lateAnswer ..
      · rename_i f hf
        split
        · exact keepsLaws_receiveFetch _ hr hc.2 (List.mem_of_find?_eq_some hf)
        · exact keepsLaws_failEntry ..
    · exact keepsLaws_lateAnswer ..

theorem keepsLaws_fetchTimeout (s : State) (e : EntryId) : KeepsLaws s (s.fetchTimeout e) := by
  unfold State.fetchTimeout
  split
  · exact .refl s
  · split
    · split
      · exact .refl s
      · split
        · split
          · exact .refl s
          · exact keepsLaws_failEntry ..
        · exact .refl s
    · exact .refl s

theorem keepsLaws_completeRead (s : State) (e : EntryId) : KeepsLaws s (s.completeRead e) := by
  unfold State.completeRead
  split
  · exact .refl s
  · split
    · split
      · exact .refl s
      · exact ((keepsLaws_answer ..).trans (keepsLaws_freeEntry ..)).trans (keepsLaws_afterLeave ..)
    · exact .refl s

end Sys2Proof.Machine
end

section
/-! What the commands of the cell keep: each law of the device. -/

namespace Sys2Proof.Machine

-- Declaration after declaration: elaborated side by side, those of the joined text need more memory than the check has.
set_option Elab.async false

/-! ### The check of a new window against the ranges (R4, R5) -/

/-- Whether the window check compares a new window of an index with a range, the slots of one module excepted. -/
def RangeName.checked (index : Nat) (but : Option ModuleId) : RangeName → Prop
  | .capture m => m.val ≠ index
  | .view v => 4 + v.val ≠ index
  | .page => True
  | .slots m => but ≠ some m

theorem mem_windows_capture {s : State} {m : ModuleId} {e : Extent} (h : s.path.captureWindows[m].extent = some e) :
    (m.val, e) ∈ s.windows :=
  List.mem_append_left _ (List.mem_filterMap.2 ⟨m, mem_allModules m, by rw [h]; rfl⟩)

theorem mem_windows_view {s : State} {v : ViewId} {e : Extent} (h : s.path.viewWindows[v].extent = some e) :
    (4 + v.val, e) ∈ s.windows :=
  List.mem_append_right _ (List.mem_filterMap.2 ⟨v, mem_allViews v, by rw [h]; rfl⟩)

theorem mem_slotExtents {s : State} {but : Option ModuleId} {m : ModuleId} (hb : but ≠ some m) {e : Extent}
    (h : e ∈ s.store.mods[m].slots.map Slot.extent) : ∃ i, (8 * m.val + i, e) ∈ s.slotExtents but := by
  obtain ⟨y, hy, rfl⟩ := List.mem_map.1 h
  obtain ⟨i, hi, rfl⟩ := List.getElem_of_mem hy
  refine ⟨i, List.mem_flatten.2 ⟨s.slotExtentsOf m, List.mem_map.2 ⟨m, mem_allModules m, if_neg hb⟩, ?_⟩⟩
  exact List.mem_mapIdx.2 ⟨i, hi, rfl⟩

/-- A window that passes its check shares no byte with any range it was compared with. -/
theorem apart_of_passes {s : State} {index : Nat} {but : Option ModuleId} {e : Extent}
    (h : s.windowRefusal index but e = none) {k : RangeName} (hk : k.checked index but) :
    ∀ b ∈ s.rangeExtents k, e.overlaps b = false := by
  obtain ⟨-, hw, hc, hs⟩ := (windowRefusal_eq_none ..).1 h
  intro b hb
  cases k with
  | capture m => exact hw _ (mem_windows_capture (Option.mem_toList.1 hb)) hk
  | view v => exact hw _ (mem_windows_view (Option.mem_toList.1 hb)) hk
  | page => exact List.mem_singleton.1 hb ▸ hc
  | slots m =>
    obtain ⟨i, hi⟩ := mem_slotExtents hk hb
    exact hs _ hi

/-- A new window that passes its check is placed and apart from every other range, so that the layout law stays. -/
theorem layout_of_passes {s s' : State} {index : Nat} {but : Option ModuleId} {e : Extent} (l : RangeName)
    (h : s.windowRefusal index but e = none) (hst : e.start % 4096 = 0) (hsz : e.size % 4096 = 0) (hg : s'.cfg = s.cfg)
    (hl : s'.rangeExtents l = [e])
    (hk : ∀ k, k ≠ l → (s'.rangeExtents k).Sublist (s.rangeExtents k) ∧ (k.checked index but ∨ s'.rangeExtents k = []))
    (hs : LayoutLaw s) : LayoutLaw s' := by
  refine layout_of_placed l hg (fun k hne => (hk k hne).1) ?_ ?_ ?_ hs
  · rw [hl]
    rintro b hb
    rw [List.mem_singleton.1 hb]
    exact ⟨((windowRefusal_eq_none ..).1 h).1, hst, hsz⟩
  · rw [hl]
    exact List.pairwise_singleton ..
  · rw [hl]
    rintro k hne a ha b hb
    rw [List.mem_singleton.1 ha]
    obtain ⟨hsub, hc | hnil⟩ := hk k hne
    · exact apart_of_passes h hc b (hsub.mem hb)
    · simp [hnil] at hb

@[simp] theorem Window.extent_activate (w : Window) : w.activate.extent = w.extent := by cases w <;> rfl
@[simp] theorem Window.extent_deactivate (w : Window) : w.deactivate.extent = w.extent := by cases w <;> rfl
@[simp] theorem Window.isActive_deactivate (w : Window) : w.deactivate.isActive = false := by cases w <;> rfl
@[simp] theorem Window.isActive_activate (w : Window) : w.activate.isActive = w.extent.isSome := by cases w <;> rfl

/-! ### Module commands -/

section
variable {s : State}

/-- A change of one module's service: its tracker, its slots and its window together. -/
theorem KeepsLaws.of_service (m : ModuleId) {f : ModuleSlots → ModuleSlots} {g : Tracker → Tracker}
    {w : Window → Window}
    (hslot : slotsLawful s.store.mods[m] s.trackers[m] → trackerLawful s.trackers[m] →
      slotsLawful (f s.store.mods[m]) (g s.trackers[m]) ∧ trackerLawful (g s.trackers[m]))
    (hload : s.agent.inFlight = none ∨ (g s.trackers[m]).record.enabled = false)
    (hwin : s.path.captureWindows[m].isActive = s.trackers[m].record.enabled →
      s.path.captureWindows[m].extent.isSome = s.trackers[m].record.configured →
      (w s.path.captureWindows[m]).isActive = (g s.trackers[m]).record.enabled
        ∧ (w s.path.captureWindows[m]).extent.isSome = (g s.trackers[m]).record.configured)
    (hlay : LayoutLaw s → LayoutLaw { s with
        trackers := upd s.trackers m g, store := { s.store with mods := upd s.store.mods m f },
        path := { s.path with captureWindows := upd s.path.captureWindows m w } }) :
    KeepsLaws s { s with
      trackers := upd s.trackers m g, store := { s.store with mods := upd s.store.mods m f },
      path := { s.path with captureWindows := upd s.path.captureWindows m w } } where
  attention := id
  event := id
  gain := id
  handoff := id
  zoom := id
  slot := by
    rintro ⟨hm, hf⟩
    refine ⟨fun k => ?_, fun f' hf' k n hk => ?_⟩
    · dsimp only
      rw [upd_get, upd_get]
      split
      · rename_i e; subst e; exact hslot (hm m).1 (hm m).2
      · exact hm k
    · dsimp only
      rw [upd_get]
      split
      · rename_i e
        subst e
        rcases hload with h0 | h0
        · exact absurd (h0.symm.trans hf') (by simp)
        · exact ⟨h0, (hf f' hf' m n hk).2⟩
      · exact hf f' hf' k n hk
  window := by
    rintro ⟨hc, hv⟩
    refine ⟨fun k => ?_, hv⟩
    dsimp only
    rw [upd_get, upd_get]
    split
    · rename_i e; subst e; exact hwin (hc m).1 (hc m).2
    · exact hc k
  layout := hlay
  fetch := id
  progress := id

/-- A disabled module has no fill slot (R21). -/
theorem fillSlot_of_disabled {t : Tracker} (h : trackerLawful t) (hd : t.record.enabled = false) :
    t.capture.fillSlot = none := by
  rw [h.1.2 hd]
  rfl

/-- An enabled module whose capture state is not DISABLED is lawful (R21). -/
theorem trackerLawful_of_enabled {t : Tracker} (he : t.record.enabled = true) (hc : t.capture ≠ .disabled) :
    trackerLawful t :=
  ⟨iff_of_false hc (by simp [he]), by simp [he]⟩

theorem keepsLaws_configureModule (m o w h d : Word) (a : Addr) (l : Word) :
    KeepsLaws s (cmdConfigureModule m o w h d a l s).1 := by
  unfold cmdConfigureModule
  split
  · exact .refl s
  · rename_i i _
    split
    · exact .refl s
    · split
      · exact .refl s
      · rename_i hen
        dsimp only
        split
        · exact .refl s
        · rename_i hpass
          rw [Bool.not_eq_true] at hen
          refine KeepsLaws.of_service i (f := fun _ => .empty)
            (g := (·.configure (o.setWidth 8) w.toNat h.toNat d.toNat l.toNat)) (w := fun _ => .configured _)
            (fun _ ht => ⟨slotsLawful_empty (fillSlot_of_disabled ht hen), ht⟩) (.inr hen) (fun _ _ => ⟨hen.symm, rfl⟩) ?_
          refine layout_of_passes (.capture i) hpass (pageDown_mod _) ?_ rfl ?_ fun k hk => ?_
          · rw [Nat.add_mod, pixelArea_mod]
          · simp [State.rangeExtents, Window.extent]
          · cases k with
            | capture k =>
              have hki : i ≠ k := fun e => hk (e ▸ rfl)
              simp only [State.rangeExtents, upd_get_ne _ hki]
              exact ⟨.refl _, .inl fun e => hki (Fin.ext e.symm)⟩
            | view v => exact ⟨.refl _, .inl (by simp only [RangeName.checked]; omega)⟩
            | page => exact ⟨.refl _, .inl trivial⟩
            | slots k =>
              by_cases hki : i = k
              · subst hki
                simp [State.rangeExtents, ModuleSlots.empty]
              · simp only [State.rangeExtents, upd_get_ne _ hki]
                exact ⟨.refl _, .inl fun e => hki (Option.some.inj e)⟩

/-- A change of what the Controller keeps for a module, its gains staying in range. -/
theorem keepsLaws_modModule (m : ModuleId) {f : ModuleComp → ModuleComp} (hf : ∀ x, x.gainsOk → (f x).gainsOk) :
    KeepsLaws s (s.modCtl fun c => c.modModule m f) := by
  refine KeepsLaws.of_ctl (fun h k => ?_) id id
  have hk := gainsOk_modModule (c := s.ctl) (m := m) (f := f) (fun k => ⟨(h k).1, (h k).2.1⟩) hf k
  exact ⟨hk.1, hk.2, (h k).2.2⟩

/-- Ranges of a state whose windows keep their extents and whose slots are those of `s`, or none. -/
theorem layout_of_service (m : ModuleId) {f : ModuleSlots → ModuleSlots} {g : Tracker → Tracker} {w : Window → Window}
    (hw : (w s.path.captureWindows[m]).extent = s.path.captureWindows[m].extent)
    (hf : ((f s.store.mods[m]).slots.map Slot.extent).Sublist (s.store.mods[m].slots.map Slot.extent)) :
    LayoutLaw s → LayoutLaw { s with
      trackers := upd s.trackers m g, store := { s.store with mods := upd s.store.mods m f },
      path := { s.path with captureWindows := upd s.path.captureWindows m w } } := by
  refine layout_of_sublist rfl fun k => ?_
  cases k with
  | capture k =>
    simp only [State.rangeExtents, upd_get]
    split
    · rename_i e; subst e; rw [hw]
    · exact .refl _
  | view v => exact .refl _
  | page => exact .refl _
  | slots k =>
    simp only [State.rangeExtents, upd_get]
    split
    · rename_i e; subst e; exact hf
    · exact .refl _

theorem upd_same {α : Type} {n : Nat} (v : Vector α n) (i : Fin n) : upd v i (fun x => x) = v :=
  Vector.set_getElem_self i.isLt

theorem keepsLaws_enableModule (m : Word) (hi : s.agent.inFlight = none) : KeepsLaws s (cmdEnableModule m s).1 := by
  unfold cmdEnableModule
  split
  · exact .refl s
  · rename_i i _
    split
    · exact .refl s
    · rename_i hen
      split
      · exact .refl s
      · rename_i hc
        rw [Bool.not_eq_true] at hen hc
        rw [Bool.or_eq_false_iff, Bool.not_eq_false'] at hc
        dsimp only
        refine KeepsLaws.trans ?_ (keepsLaws_modModule i fun _ hx => hx)
        have hs := KeepsLaws.of_service (s := s) i (f := fun x => x) (g := Tracker.enable) (w := Window.activate)
          (fun h ht => ⟨slotsLawful_congr (fillSlot_of_disabled ht hen).symm h, trackerLawful_of_enabled rfl nofun⟩)
          (.inl hi) (fun _ h => ⟨by rw [Window.isActive_activate, h, hc.1]; rfl, by rw [Window.extent_activate, h]; rfl⟩)
          (layout_of_service i (Window.extent_activate _) (.refl _))
        rw [upd_same] at hs
        exact hs

theorem emptySlots_returnFill (m : ModuleId) : (s.returnFill m).emptySlots m = s.emptySlots m := by
  simp [State.emptySlots, State.returnFill, State.modSlots, upd, Vector.set_set]

theorem keepsLaws_disableModule (m : Word) : KeepsLaws s (cmdDisableModule m s).1 := by
  unfold cmdDisableModule
  split
  · exact .refl s
  · rename_i i _
    split
    · exact .refl s
    · split
      · exact .refl s
      · dsimp only
        rw [emptySlots_returnFill]
        exact KeepsLaws.of_service i (f := fun _ => .empty) (g := Tracker.disable) (w := Window.deactivate)
          (fun _ _ => ⟨slotsLawful_empty rfl, by simp [trackerLawful, Tracker.disable]⟩) (.inr rfl)
          (fun _ h => ⟨Window.isActive_deactivate _, by rw [Window.extent_deactivate, h]; rfl⟩)
          (layout_of_service i (Window.extent_deactivate _) (List.nil_sublist _))

/-- The open frame of a module is dropped, its fill slot returned, and its tracker changed to one without a fill slot. -/
theorem keepsLaws_dropFrame (m : ModuleId) {g : Tracker → Tracker}
    (he : (g s.trackers[m]).record.enabled = s.trackers[m].record.enabled)
    (hc : (g s.trackers[m]).record.configured = s.trackers[m].record.configured)
    (hf : (g s.trackers[m]).capture.fillSlot = none)
    (hl : trackerLawful s.trackers[m] → trackerLawful (g s.trackers[m])) :
    KeepsLaws s ((s.returnFill m).modTracker m g) := by
  refine KeepsLaws.of_module m (f := fun ms => s.trackers[m].capture.fillSlot.elim ms ms.giveBack)
    (o := s.store.closeOrder) ⟨he, hc, ?_, fun h ht => ⟨slotsLawful_returned hf h, hl ht⟩⟩
  cases s.trackers[m].capture.fillSlot with
  | none => rfl
  | some i => exact map_extent_modify Slot.release_extent i _

theorem keepsLaws_purge (m : ModuleId) : KeepsLaws s (s.modSlots m ModuleSlots.purge) := by
  refine keepsLaws_modSlots m (map_extent_map (fun y => ?_) _) fun _ => slotsLawful_purge
  split <;> rfl

theorem keepsLaws_resetModule (m : Word) : KeepsLaws s (cmdResetModule m s).1 := by
  unfold cmdResetModule
  split
  · exact .refl s
  · rename_i i _
    split
    · exact .refl s
    · rename_i hen
      rw [Bool.not_eq_true, Bool.not_eq_false'] at hen
      have hdrop : KeepsLaws s ((s.returnFill i).modTracker i Tracker.restart) :=
        keepsLaws_dropFrame i rfl rfl rfl fun _ => trackerLawful_of_enabled hen nofun
      exact ((hdrop.trans (keepsLaws_purge i)).trans
        (keepsLaws_modModule i fun x _ => ⟨gainOk_unity, gainOk_unity⟩)).trans (.of_reg _)

/-! ### Slot commands -/

theorem keepsLaws_holdFrame (m : Word) : KeepsLaws s (cmdHoldFrame m s).1 := by
  unfold cmdHoldFrame
  split
  · exact .refl s
  · rename_i i _
    split
    · exact .refl s
    · split
      · exact .refl s
      · rename_i k _ _ t _
        exact keepsLaws_modSlots i (map_extent_modify (Slot.hold_extent · (.ticket t)) k _) fun _ h =>
          slotsLawful_hold k (.ticket t) h

theorem keepsLaws_releaseHold (m k : Word) : KeepsLaws s (cmdReleaseHold m k s).1 := by
  unfold cmdReleaseHold
  split
  · exact .refl s
  · rename_i i _
    split
    · dsimp only
      split
      · exact .refl s
      · rename_i n _
        exact keepsLaws_modSlots i (map_extent_modify (Slot.unhold_extent · _) n _) fun _ h => slotsLawful_unholdSlot n _ h
    · exact .refl s

/-! ### Geometry, zoom and hand-off commands -/

theorem keepsLaws_setField (w lo hi : Word) : KeepsLaws s (cmdSetField w lo hi s).1 := by
  unfold cmdSetField
  split
  · exact .refl s
  · split
    · exact .refl s
    · split
      · exact .refl s
      · split
        · exact .refl s
        · refine KeepsLaws.of_ctl id id fun h => ?_
          obtain ⟨hf, -, hrest⟩ := h
          refine ⟨hf, fun f he => ?_, hrest⟩
          cases he
          simp only [Field.inRange]
          omega

theorem keptRate_mem (r : Nat) : 65536 ≤ keptRate r ∧ keptRate r ≤ 131072 := by
  unfold keptRate
  split <;> omega

theorem keepsLaws_zoomTo (z r : Word) : KeepsLaws s (cmdZoomTo z r s).1 := by
  have hset : ∀ st : State, st.ctl = s.ctl →
      KeepsLaws st (st.modCtl fun x => { x with
        pendingZoom := some { target := clamp s.ctl.field.zmin s.ctl.field.zmax z.toNat, rate := keptRate r.toNat } }) := by
    intro st he
    refine KeepsLaws.of_ctl id id fun h => ?_
    obtain ⟨hf, hp, h1, h2, h3, h4, h5, h6, h7, -⟩ := h
    refine ⟨hf, hp, h1, h2, h3, h4, h5, h6, h7, fun w hw => ?_⟩
    cases hw
    rw [he] at hf
    obtain ⟨-, -, hlo, hlt, hhi⟩ := hf
    have hlow := le_clamp (Nat.le_of_lt hlt) z.toNat
    have hup := clamp_le (Nat.le_of_lt hlt) z.toNat
    exact ⟨by dsimp only; omega, by dsimp only; omega, keptRate_mem _⟩
  unfold cmdZoomTo
  dsimp only
  split
  · exact (keepsLaws_raise s _).trans (hset _ rfl)
  · exact hset s rfl

theorem keepsLaws_forceModule (m : Word) : KeepsLaws s (cmdForceModule m s).1 := by
  unfold cmdForceModule
  split
  · exact .refl s
  · split
    · exact .of_ctl id id id
    · exact .refl s

theorem keepsLaws_releaseForce : KeepsLaws s (cmdReleaseForce s).1 := .of_ctl id id id

theorem keepsLaws_setHandoff (h f l p d u : Word) : KeepsLaws s (cmdSetHandoff h f l p d u s).1 := by
  refine KeepsLaws.of_ctl id (fun hs => ?_) id
  obtain ⟨hp, -, hrest⟩ := hs
  refine ⟨hp, fun x hx => ?_, hrest⟩
  cases hx
  dsimp only [HandoffParams.inRange]
  refine ⟨clamp_le ?_ _, le_clamp ?_ _, clamp_le ?_ _, clamp_le ?_ _, le_clamp ?_ _, clamp_le ?_ _, clamp_le ?_ _,
    clamp_le ?_ _⟩
  all_goals omega

/-- The composition published with the frozen flag as given. -/
theorem keepsLaws_setFrozen (b : Bool) : KeepsLaws s (s.modCtl (·.setFrozen b)) := by
  refine KeepsLaws.of_ctl (fun h m => ⟨(h m).1, (h m).2.1, ?_⟩) id id
  exact (publication_gain ({ s.ctl with frozen := b } : Controller) m).symm ▸ (h m).1

theorem keepsLaws_freezeModule (m : ModuleId) : KeepsLaws s (s.freezeModule m) := by
  unfold State.freezeModule
  cases s.freezeSlot m with
  | none => exact keepsLaws_modSlots m rfl fun _ h => h
  | some i => exact keepsLaws_hold s m i .freeze

theorem keepsLaws_freeze : KeepsLaws s (cmdFreeze s).1 := by
  unfold cmdFreeze
  split
  · exact .refl s
  · exact (KeepsLaws.foldl _ (fun _ m => keepsLaws_freezeModule m) _ _).trans (keepsLaws_setFrozen _)

theorem keepsLaws_thaw : KeepsLaws s (cmdThaw s).1 := by
  unfold cmdThaw
  split
  · exact (keepsLaws_unholdAll s _).trans (keepsLaws_setFrozen _)
  · exact .refl s

/-! ### View commands -/

/-- A change of one view's service: the view and its window together. -/
theorem KeepsLaws.of_viewService (v : ViewId) {f : View → View} {w : Window → Window}
    (hwin : s.path.viewWindows[v].isActive = s.comp.views[v].enabled →
      s.path.viewWindows[v].extent.isSome = s.comp.views[v].configured →
      (w s.path.viewWindows[v]).isActive = (f s.comp.views[v]).enabled
        ∧ (w s.path.viewWindows[v]).extent.isSome = (f s.comp.views[v]).configured)
    (hlay : LayoutLaw s → LayoutLaw { s with
        comp := { s.comp with views := upd s.comp.views v f },
        path := { s.path with viewWindows := upd s.path.viewWindows v w } }) :
    KeepsLaws s { s with
      comp := { s.comp with views := upd s.comp.views v f },
      path := { s.path with viewWindows := upd s.path.viewWindows v w } } where
  attention := id
  event := id
  gain := id
  handoff := id
  zoom := id
  slot := id
  window := by
    rintro ⟨hc, hv⟩
    refine ⟨hc, fun u => ?_⟩
    dsimp only
    rw [upd_get, upd_get]
    split
    · rename_i e; subst e; exact hwin (hv v).1 (hv v).2
    · exact hv u
  layout := hlay
  fetch := id
  progress := id

/-- A view window that keeps its extent keeps the layout. -/
theorem layout_of_viewService (v : ViewId) {f : View → View} {w : Window → Window}
    (hw : (w s.path.viewWindows[v]).extent = s.path.viewWindows[v].extent) :
    LayoutLaw s → LayoutLaw { s with
      comp := { s.comp with views := upd s.comp.views v f },
      path := { s.path with viewWindows := upd s.path.viewWindows v w } } := by
  refine layout_of_sublist rfl fun k => ?_
  cases k with
  | view u =>
    simp only [State.rangeExtents, upd_get]
    split
    · rename_i e; subst e; rw [hw]
    · exact .refl _
  | capture k => exact .refl _
  | page => exact .refl _
  | slots k => exact .refl _

theorem keepsLaws_configureView (v w h d : Word) (a : Addr) (l : Word) :
    KeepsLaws s (cmdConfigureView v w h d a l s).1 := by
  unfold cmdConfigureView
  split
  · exact .refl s
  · rename_i i _
    split
    · exact .refl s
    · split
      · exact .refl s
      · rename_i hen
        dsimp only
        split
        · exact .refl s
        · rename_i hpass
          rw [Bool.not_eq_true] at hen
          refine KeepsLaws.of_viewService i (w := fun _ => .configured _) (fun _ _ => ⟨hen.symm, rfl⟩) ?_
          refine layout_of_passes (.view i) hpass (pageDown_mod _) ?_ rfl ?_ fun k hk => ?_
          · rw [Nat.add_mod, pixelArea_mod]
          · simp [State.rangeExtents, Window.extent]
          · cases k with
            | view k =>
              have hki : i ≠ k := fun e => hk (e ▸ rfl)
              simp only [State.rangeExtents, upd_get_ne _ hki]
              exact ⟨.refl _, .inl fun e => hki (Fin.ext (by omega))⟩
            | capture k => exact ⟨.refl _, .inl (by simp only [RangeName.checked]; omega)⟩
            | page => exact ⟨.refl _, .inl trivial⟩
            | slots k => exact ⟨.refl _, .inl nofun⟩

theorem keepsLaws_enableView (v : Word) : KeepsLaws s (cmdEnableView v s).1 := by
  unfold cmdEnableView
  split
  · exact .refl s
  · rename_i i _
    split
    · exact .refl s
    · split
      · exact .refl s
      · rename_i hc
        rw [Bool.not_eq_true, Bool.not_eq_false'] at hc
        exact KeepsLaws.of_viewService i (f := View.enable) (w := Window.activate)
          (fun _ h => ⟨by rw [Window.isActive_activate, h, hc]; rfl, by rw [Window.extent_activate, h]; rfl⟩)
          (layout_of_viewService i (Window.extent_activate _))

theorem keepsLaws_closeAny (v : ViewId) (f : FrameName) : KeepsLaws s (s.closeAny v f) := by
  unfold State.closeAny
  split
  · exact keepsLaws_closeFrame ..
  · exact .refl s

theorem keepsLaws_disableView (v : Word) : KeepsLaws s (cmdDisableView v s).1 := by
  unfold cmdDisableView
  split
  · exact .refl s
  · rename_i i _
    split
    · exact .refl s
    · split
      · exact .refl s
      · refine ((keepsLaws_closeAny i .a).trans (keepsLaws_closeAny i .b)).trans ?_
        exact KeepsLaws.of_viewService i (f := fun w => { w with enabled := false }) (w := Window.deactivate)
          (fun _ h => ⟨Window.isActive_deactivate _, by rw [Window.extent_deactivate, h]⟩)
          (layout_of_viewService i (Window.extent_deactivate _))

end

end Sys2Proof.Machine
end

section
/-! What the Agent, the ends of commands in flight, the two resets and the traffic keep, and so every command: each law of
the device (the laws of chapters 1 to 10 that every step keeps). -/

namespace Sys2Proof.Machine

-- Declaration after declaration: elaborated side by side, those of the joined text need more memory than the check has.
set_option Elab.async false

/-! ### Reset values -/

/-- Windows, modules, views, table and events stand at their reset values, with no command in flight. -/
structure State.Cleared (s : State) : Prop where
  capture : s.path.captureWindows = Vector.replicate 4 .unconfigured
  view : s.path.viewWindows = Vector.replicate 2 .unconfigured
  trackers : s.trackers = Vector.replicate 4 .reset
  store : s.store = .reset
  ctl : s.ctl = .reset
  views : s.comp.views = Composer.reset.views
  table : s.comp.table = Composer.reset.table
  events : s.agent.events = Agent.reset.events
  mask : s.agent.mask = 0
  line : s.agent.attention = false
  inFlight : s.agent.inFlight = none

section
variable {s : State} (h : s.Cleared)
include h

theorem State.Cleared.attentionLaw : AttentionLaw s := by
  refine attentionLaw_of_line ?_
  rw [h.line, h.events, h.mask]
  decide

theorem State.Cleared.eventLaw : EventLaw s := by
  intro n
  have hn : s.agent.events[n] = .clear := by rw [h.events]; exact Vector.getElem_replicate ..
  rw [hn]
  exact eventLawful_clear

theorem State.Cleared.gainLaw : GainLaw s := by
  intro m
  rw [h.ctl]
  simpa [Controller.reset, ModuleComp.reset] using gainOk_unity

theorem State.Cleared.handoffLaw : HandoffLaw s := by
  unfold HandoffLaw
  rw [h.ctl]
  refine ⟨?_, nofun, ?_, ?_, ?_, rfl, rfl, rfl⟩
  · simp [Controller.reset, HandoffParams.inRange]
  all_goals simp [Controller.reset]

theorem State.Cleared.zoomLaw : ZoomLaw s := by
  unfold ZoomLaw
  rw [h.ctl]
  simp [Controller.reset, Field.inRange]

theorem State.Cleared.slotLaw : SlotLaw s := by
  refine ⟨fun m => ?_, fun f hf => by simp [h.inFlight] at hf⟩
  have hs : s.store.mods[m] = .empty := by rw [h.store]; exact Vector.getElem_replicate ..
  have ht : s.trackers[m] = .reset := by rw [h.trackers]; exact Vector.getElem_replicate ..
  rw [hs, ht]
  exact ⟨slotsLawful_empty rfl, iff_of_true rfl rfl, fun _ => rfl⟩

theorem State.Cleared.windowLaw : WindowLaw s := by
  unfold WindowLaw
  rw [h.capture, h.view, h.trackers, h.views]
  decide

theorem State.Cleared.fetchLaw : FetchLaw s := by
  intro e r hr
  rw [h.table] at hr
  simp [Composer.reset] at hr

theorem State.Cleared.progressLaw : ProgressLaw s := by
  intro f hf
  simp [h.inFlight] at hf

/-- After a reset nothing but the control page is configured or loaded. -/
theorem State.Cleared.rangeExtents_sublist {s₀ : State} (hg : s.cfg = s₀.cfg) (l : RangeName) :
    (s.rangeExtents l).Sublist (s₀.rangeExtents l) := by
  cases l with
  | capture m => simp [State.rangeExtents, h.capture, Window.extent]
  | view v => simp [State.rangeExtents, h.view, Window.extent]
  | page => simp [State.rangeExtents, hg]
  | slots m => simp [State.rangeExtents, h.store, SlotStore.reset, ModuleSlots.empty]

/-- A state at its reset values meets the laws. -/
theorem State.Cleared.keepsLaws {s₀ : State} (hg : s.cfg = s₀.cfg) : KeepsLaws s₀ s where
  attention := fun _ => h.attentionLaw
  event := fun _ => h.eventLaw
  gain := fun _ => h.gainLaw
  handoff := fun _ => h.handoffLaw
  zoom := fun _ => h.zoomLaw
  slot := fun _ => h.slotLaw
  window := fun _ => h.windowLaw
  layout := layout_of_sublist hg (h.rangeExtents_sublist hg)
  fetch := fun _ => h.fetchLaw
  progress := fun _ => h.progressLaw

end

/-- What a reset leaves is at its reset values. -/
theorem cleared_reset (s : State) {p : MemoryPath} (hc : p.captureWindows = Vector.replicate 4 .unconfigured)
    (hv : p.viewWindows = Vector.replicate 2 .unconfigured) (k d : Nat) : ((s.resetBlocks p).writeStart k d).Cleared :=
  ⟨hc, hv, rfl, rfl, rfl, rfl, rfl, rfl, rfl, rfl, rfl⟩

theorem keepsLaws_resetAll (s : State) (q : Word) : KeepsLaws s (s.resetAll q) :=
  (cleared_reset _ rfl rfl _ _).keepsLaws rfl

theorem keepsLaws_portReset (s : State) : KeepsLaws s s.portReset := (cleared_reset _ rfl rfl _ _).keepsLaws rfl

/-! ### Commands taken (R158 to R161) -/

section
variable {s : State}

/-- A time-taking command that ends at its trigger. -/
theorem keepsLaws_endedAtOnce (q : Word) (k : Nat) (r : Reply) : KeepsLaws s (startTimed q k s (.ended r)) :=
  keepsLaws_finishTimed q k false (.refl s)

theorem keepsLaws_loadSlots (q m : Word) (b : Addr) (n : Word) :
    KeepsLaws s (startTimed q 5 s (trigLoadSlots m b n s)) := by
  unfold trigLoadSlots
  split
  · exact keepsLaws_endedAtOnce ..
  · split
    · exact keepsLaws_endedAtOnce ..
    · rename_i hn
      split
      · exact keepsLaws_endedAtOnce ..
      · split
        · exact keepsLaws_endedAtOnce ..
        · rename_i hen
          split
          · refine keepsLaws_start (by simp only [InFlightOp.accesses]; omega) fun m' n' e => ?_
            cases e
            exact ⟨by simpa using hen, by omega, by omega⟩
          · exact keepsLaws_endedAtOnce ..

theorem keepsLaws_dumpSlots (q m : Word) (b : Addr) : KeepsLaws s (startTimed q 8 s (trigDumpSlots m b s)) := by
  unfold trigDumpSlots
  split
  · exact keepsLaws_endedAtOnce ..
  · dsimp only
    split
    · exact keepsLaws_endedAtOnce ..
    · split
      · exact keepsLaws_endedAtOnce ..
      · rename_i hne
        refine keepsLaws_start ?_ nofun
        simpa [InFlightOp.accesses, List.length_pos_iff] using hne

theorem keepsLaws_loadCalibration (q m : Word) (b : Addr) :
    KeepsLaws s (startTimed q 9 s (trigLoadCalibration m b s)) := by
  unfold trigLoadCalibration
  split
  · exact keepsLaws_endedAtOnce ..
  · split
    · exact keepsLaws_start (by simp [InFlightOp.accesses]) nofun
    · exact keepsLaws_endedAtOnce ..

theorem keepsLaws_dispatch (q : Word) (c : Command) (hi : s.agent.inFlight = none) : KeepsLaws s (dispatch q c s) := by
  cases c with
  | configureModule => exact keepsLaws_finishCommand _ _ _ (keepsLaws_configureModule ..)
  | enableModule => exact keepsLaws_finishCommand _ _ _ (keepsLaws_enableModule _ hi)
  | disableModule => exact keepsLaws_finishCommand _ _ _ (keepsLaws_disableModule _)
  | resetModule => exact keepsLaws_finishCommand _ _ _ (keepsLaws_resetModule _)
  | loadSlots => exact keepsLaws_loadSlots ..
  | holdFrame => exact keepsLaws_finishCommand _ _ _ (keepsLaws_holdFrame _)
  | releaseHold => exact keepsLaws_finishCommand _ _ _ (keepsLaws_releaseHold ..)
  | dumpSlots => exact keepsLaws_dumpSlots ..
  | loadCalibration => exact keepsLaws_loadCalibration ..
  | setField => exact keepsLaws_finishCommand _ _ _ (keepsLaws_setField ..)
  | zoomTo => exact keepsLaws_finishCommand _ _ _ (keepsLaws_zoomTo ..)
  | forceModule => exact keepsLaws_finishCommand _ _ _ (keepsLaws_forceModule _)
  | releaseForce => exact keepsLaws_finishCommand _ _ _ keepsLaws_releaseForce
  | setHandoff => exact keepsLaws_finishCommand _ _ _ (keepsLaws_setHandoff ..)
  | freeze => exact keepsLaws_finishCommand _ _ _ keepsLaws_freeze
  | thaw => exact keepsLaws_finishCommand _ _ _ keepsLaws_thaw
  | configureView => exact keepsLaws_finishCommand _ _ _ (keepsLaws_configureView ..)
  | enableView => exact keepsLaws_finishCommand _ _ _ (keepsLaws_enableView _)
  | disableView => exact keepsLaws_finishCommand _ _ _ (keepsLaws_disableView _)
  | clearEvents => exact keepsLaws_finishCommand _ _ _ (keepsLaws_clearEvents ..)
  | setAttention => exact keepsLaws_finishCommand _ _ _ (keepsLaws_setAttention ..)
  | resetAll => exact keepsLaws_resetAll s q

theorem keepsLaws_take (q : Word) (c : Command) : KeepsLaws s (s.take q c) := by
  unfold State.take
  split
  · exact keepsLaws_resetAll ..
  · split
    · exact keepsLaws_writeStatus ..
    · rename_i hi
      exact keepsLaws_dispatch q c hi

theorem keepsLaws_trigger (cell : List Byte) : KeepsLaws s (s.trigger cell) := by
  unfold State.trigger
  split
  · exact keepsLaws_take ..
  · split
    · exact keepsLaws_writeStatus ..
    · exact keepsLaws_writeStatus ..

theorem keepsLaws_cellWrite (o : Nat) (b : List Byte) : KeepsLaws s (s.cellWrite o b) := by
  have hn : KeepsLaws s { s with agent := { s.agent with staging := stage o b s.agent.staging } } := .of_note rfl rfl rfl rfl
  unfold State.cellWrite
  dsimp only
  split
  · exact hn.trans (keepsLaws_trigger _)
  · exact hn

/-! ### The ends of commands in flight (R50, R55, R61) -/

/-- One entry of a slot buffer passes its check exactly when it lies in the carve-out and shares no byte with a window,
the control page, a slot of another module or an entry before it (R50). -/
theorem slotRefusal_eq_none (m : ModuleId) (before : List Extent) (e : Extent) :
    s.slotRefusal m before e = none ↔ insideCarve s.cfg e.start e.size = true
      ∧ (∀ x ∈ s.windows, e.overlaps x.2 = false) ∧ e.overlaps (controlExtent s.cfg) = false
      ∧ (∀ x ∈ s.slotExtents (some m), e.overlaps x.2 = false) ∧ ∀ x ∈ before, e.overlaps x = false := by
  unfold State.slotRefusal
  split
  · rename_i h
    rw [Bool.not_eq_true'] at h
    exact iff_of_false nofun fun h' => by simp [h] at h'
  · rename_i h
    rw [Bool.not_eq_true', Bool.not_eq_false] at h
    split
    · rename_i ho
      refine iff_of_false nofun fun h' => ?_
      obtain ⟨-, h1, h2, h3, h4⟩ := h'
      rw [Bool.or_eq_true, Bool.or_eq_true, Bool.or_eq_true, List.any_eq_true, List.any_eq_true, List.any_eq_true] at ho
      rcases ho with ((⟨x, hx, ho⟩ | ho) | ⟨x, hx, ho⟩) | ⟨x, hx, ho⟩
      · simp [h1 x hx] at ho
      · simp [h2] at ho
      · simp [h3 x hx] at ho
      · simp [h4 x hx] at ho
    · rename_i ho
      simp only [Bool.not_eq_true, Bool.or_eq_false_iff, List.any_eq_false] at ho
      obtain ⟨⟨⟨h1, h2⟩, h3⟩, h4⟩ := ho
      exact iff_of_true rfl ⟨h, h1, h2, h3, h4⟩

/-- A slot buffer passes exactly when each entry passes its check against those before it. -/
theorem firstRefusal_eq_none (m : ModuleId) (before es : List Extent) :
    s.firstRefusal m before es = none ↔ (∀ e ∈ es, s.slotRefusal m before e = none)
      ∧ es.Pairwise fun a b => b.overlaps a = false := by
  induction es generalizing before with
  | nil => simp [State.firstRefusal]
  | cons e es ih =>
    unfold State.firstRefusal
    split
    · rename_i o h
      exact iff_of_false nofun fun h' => by simp [h] at h'
    · rename_i h
      rw [ih, List.forall_mem_cons, List.pairwise_cons]
      simp only [slotRefusal_eq_none, List.mem_append, List.mem_singleton] at h ⊢
      constructor
      · rintro ⟨h1, h2⟩
        refine ⟨⟨h, fun x hx => ?_⟩, fun x hx => (h1 x hx).2.2.2.2 e (.inr rfl), h2⟩
        obtain ⟨g1, g2, g3, g4, g5⟩ := h1 x hx
        exact ⟨g1, g2, g3, g4, fun y hy => g5 y (.inl hy)⟩
      · rintro ⟨⟨-, h1⟩, h2, h3⟩
        refine ⟨fun x hx => ?_, h3⟩
        obtain ⟨g1, g2, g3, g4, g5⟩ := h1 x hx
        exact ⟨g1, g2, g3, g4, fun y hy => hy.elim (g5 y) fun hy => hy ▸ h2 x hx⟩

/-- A slot list installed by a LOAD_SLOTS in flight (R50). -/
theorem keepsLaws_install {m : ModuleId} {n : Nat} {f : InFlight} (hf : s.agent.inFlight = some f)
    (hl : f.op.loads = some (m, n)) {es : List Extent} (hn : es.length = n) (hp : s.firstRefusal m [] es = none)
    (ha : ∀ e ∈ es, e.start % 4096 = 0 ∧ e.size % 4096 = 0) :
    KeepsLaws s (s.modSlots m fun _ => { ModuleSlots.empty with slots := es.map fun e => Slot.loaded e.start e.size }) where
  attention := id
  event := id
  gain := id
  handoff := id
  zoom := id
  slot := by
    rintro ⟨hm, hload⟩
    refine ⟨fun k => ?_, hload⟩
    show slotsLawful (upd s.store.mods m _)[k] s.trackers[k] ∧ trackerLawful s.trackers[k]
    rw [upd_get]
    split
    · rename_i e
      subst e
      obtain ⟨hd, h2, h8⟩ := hload f hf m n hl
      have hfill := fillSlot_of_disabled (hm m).2 hd
      refine ⟨?_, (hm m).2⟩
      rw [slotsLawful_iff]
      simp only [List.getElem?_map, Option.map_eq_some_iff, exists_exists_and_eq_and, hfill, List.length_map, hn]
      refine ⟨List.nodup_nil, ?_, ?_, ?_, .inr ⟨h2, h8⟩⟩
      · simp [ModuleSlots.empty, Slot.loaded, Slot.isReady, Slot.record]
      · simp [Slot.loaded, Slot.isFilling]
      · rintro i y ⟨e, -, rfl⟩ -
        rfl
    · exact hm k
  window := id
  layout := by
    obtain ⟨hall, hpair⟩ := (firstRefusal_eq_none m [] es).1 hp
    have hl : ∀ k, (s.modSlots m fun _ =>
        { ModuleSlots.empty with slots := es.map fun e => Slot.loaded e.start e.size }).rangeExtents k
          = if k = .slots m then es else s.rangeExtents k := by
      intro k
      cases k with
      | slots k =>
        simp only [State.rangeExtents, State.modSlots, RangeName.slots.injEq]
        rw [upd_get]
        by_cases e : m = k
        · subst e
          rw [if_pos rfl, if_pos rfl, List.map_map]
          exact List.map_id es
        · rw [if_neg e, if_neg (Ne.symm e)]
      | capture k => rfl
      | view v => rfl
      | page => rfl
    refine layout_of_placed (.slots m) rfl (fun k hk => ?_) (fun e he => ?_) ?_ fun k hk a ha' b hb => ?_
    · rw [hl, if_neg hk]
    · rw [hl, if_pos rfl] at he
      exact ⟨((slotRefusal_eq_none ..).1 (hall e he)).1, ha e he⟩
    · rw [hl, if_pos rfl]
      exact hpair.imp fun h => (overlaps_comm ..).trans h
    · rw [hl, if_pos rfl] at ha'
      rw [hl, if_neg hk] at hb
      obtain ⟨-, hw, hc, hsl, -⟩ := (slotRefusal_eq_none ..).1 (hall a ha')
      cases k with
      | capture k => exact hw _ (mem_windows_capture (Option.mem_toList.1 hb))
      | view v => exact hw _ (mem_windows_view (Option.mem_toList.1 hb))
      | page => exact List.mem_singleton.1 hb ▸ hc
      | slots k =>
        obtain ⟨i, hi⟩ := mem_slotExtents (but := some m) (fun e => hk (Option.some.inj e ▸ rfl)) hb
        exact hsl _ hi
  fetch := id
  progress := id

theorem keepsLaws_endLoadSlots {m : ModuleId} {n : Nat} {f : InFlight} (hf : s.agent.inFlight = some f)
    (hl : f.op.loads = some (m, n)) (b : List Byte) : KeepsLaws s (endLoadSlots m n b s).1 := by
  unfold endLoadSlots
  dsimp only
  split
  · exact .refl s
  · rename_i hp
    refine keepsLaws_install hf hl (by simp [bufferExtents]) hp fun e he => ?_
    obtain ⟨j, -, rfl⟩ := List.mem_map.1 he
    exact ⟨pageDown_mod _, pixelArea_mod ..⟩

theorem keepsLaws_endLoadCalibration (m : ModuleId) (b : List Byte) : KeepsLaws s (endLoadCalibration m b s).1 := by
  unfold endLoadCalibration
  split
  · exact .refl s
  · exact keepsLaws_modModule m fun _ h => h

theorem keepsLaws_takeReads {n : Nat} {f : InFlight} (hf : s.agent.inFlight = some f) (k : Bool) (a : AccessAnswers n)
    {b : List Byte} (hb : 8 * n ≤ b.length) {failed : Nat → Ended} {read : List Byte → Ended}
    (hfail : ∀ j, KeepsLaws s (failed j).1) (hread : ∀ b, KeepsLaws s (read b).1) :
    KeepsLaws s (s.takeReads f k a b failed read) := by
  unfold State.takeReads
  split
  · exact keepsLaws_finishTimed _ _ _ (hfail _)
  · dsimp only
    split
    · exact keepsLaws_finishTimed _ _ _ (hread _)
    · rename_i hc
      exact keepsLaws_keepProgress hf (progress_receive (fun _ => hb) (by simpa using hc))

theorem keepsLaws_takeWrites {f : InFlight} (hf : s.agent.inFlight = some f) (hk : f.op.kind = 8) (b : Nat)
    (es : List (List Byte)) (i : Nat) (a : AccessAnswers 8) : KeepsLaws s (s.takeWrites f b es i a) := by
  unfold State.takeWrites
  dsimp only
  split
  · exact keepsLaws_finishTimed _ _ _ (keepsLaws_addDump ..)
  · split
    · exact keepsLaws_finishTimed _ _ _ (keepsLaws_addDump ..)
    · rename_i hc
      exact keepsLaws_keepProgress hf fun h =>
        progress_receive (fun h => absurd hk h) (by simpa using hc) (progress_issueTo i h)

theorem keepsLaws_loadSlotsEnd (n : Nat) (a : AccessAnswers 8) {b : List Byte} (hb : 64 ≤ b.length) :
    KeepsLaws s (s.loadSlotsEnd n a b) := by
  unfold State.loadSlotsEnd
  split
  · exact .refl s
  · rename_i f hf
    split
    · rename_i m _ count hop
      split
      · exact keepsLaws_takeReads hf _ _ hb (fun _ => .refl s) fun _ => keepsLaws_endLoadSlots hf (by rw [hop]; rfl) _
      · exact .refl s
    · exact .refl s
    · exact .refl s

theorem keepsLaws_dumpSlotsEnd (n : Nat) (a : AccessAnswers 8) (i : Nat) : KeepsLaws s (s.dumpSlotsEnd n a i) := by
  unfold State.dumpSlotsEnd
  split
  · exact .refl s
  · rename_i f hf
    split
    · rename_i hop
      split
      · exact keepsLaws_takeWrites hf (by rw [hop]; rfl) ..
      · exact .refl s
    · exact .refl s
    · exact .refl s

theorem keepsLaws_loadCalibrationEnd (n : Nat) (a : AccessAnswers 12) {b : List Byte} (hb : 96 ≤ b.length) :
    KeepsLaws s (s.loadCalibrationEnd n a b) := by
  unfold State.loadCalibrationEnd
  split
  · exact .refl s
  · rename_i f hf
    split
    · split
      · exact keepsLaws_takeReads hf _ _ hb (fun _ => .refl s) fun _ => keepsLaws_endLoadCalibration ..
      · exact .refl s
    · exact .refl s
    · exact .refl s

/-! ### The frame protocol (R23 to R33) -/

/-- A module whose capture state is not DISABLED is in service (R21). -/
theorem enabled_of_capture {t : Tracker} (ht : trackerLawful t) (h : t.capture ≠ .disabled) : t.record.enabled = true := by
  simpa using mt ht.1.2 h

/-- A tracker whose capture state is not DISABLED stays lawful where its capture state changes to another such. -/
theorem trackerLawful_setCapture {t : Tracker} {c : Capture} (h : t.capture ≠ .disabled) (hc : c ≠ .disabled)
    (ht : trackerLawful t) : trackerLawful (t.setCapture c) :=
  trackerLawful_of_enabled (t := t.setCapture c) (enabled_of_capture (t := t) ht h) hc

theorem keepsLaws_openCapture (m : ModuleId) (hc : s.trackers[m].capture = .idle) : KeepsLaws s (s.openCapture m) := by
  have hnd : s.trackers[m].capture ≠ .disabled := by rw [hc]; nofun
  have hno : s.trackers[m].capture.fillSlot = none := by rw [hc]; rfl
  unfold State.openCapture
  split
  · rename_i i hg
    exact KeepsLaws.of_module m (f := (·.take i)) (g := (·.setCapture (.filling i (s.ctl.mods[m].rect.map Profile.fresh))))
      (o := s.store.closeOrder) ⟨rfl, rfl, map_extent_modify Slot.fill_extent i _,
        fun h ht => ⟨slotsLawful_take hg hno rfl h, trackerLawful_setCapture hnd nofun ht⟩⟩
  · refine (keepsLaws_modTracker m ⟨rfl, rfl, rfl, fun h ht => ⟨?_, ?_⟩⟩).trans (keepsLaws_raise ..)
    · exact slotsLawful_congr hno.symm h
    · exact trackerLawful_setCapture hnd nofun ht

theorem fillSlot_count (ps : List CountedPixel) (c : Capture) : (c.count ps).fillSlot = c.fillSlot := by cases c <;> rfl

theorem keepsLaws_pixelOpen (m : ModuleId) (p o : Nat) (x : Transaction) : KeepsLaws s (s.pixelOpen m p o x) := by
  unfold State.pixelOpen
  split
  · rename_i i hi
    refine (keepsLaws_modTracker m ⟨rfl, rfl, rfl, fun h ht => ⟨slotsLawful_congr (fillSlot_count ..) h, ?_⟩⟩).trans
      (keepsLaws_forward ..)
    have hnd : ∀ c : Capture, c.fillSlot = some i → c ≠ .disabled := by rintro _ h rfl; cases h
    exact trackerLawful_setCapture (hnd _ hi) (hnd _ ((fillSlot_count ..).trans hi)) ht
  · exact keepsLaws_answer ..

theorem keepsLaws_pixelWrite (m : ModuleId) (p o : Nat) (x : Transaction) : KeepsLaws s (s.pixelWrite m p o x) := by
  unfold State.pixelWrite
  split
  · rename_i hc
    exact (keepsLaws_openCapture m hc).trans (keepsLaws_pixelOpen ..)
  · exact keepsLaws_pixelOpen ..

/-- Liveness renewed at a module that is in service (R32). -/
theorem keepsLaws_renew (m : ModuleId) (f : Word) (hc : s.trackers[m].capture ≠ .disabled) :
    KeepsLaws s (s.renew m f) := by
  have hmod : ∀ d, KeepsLaws s (s.modTracker m (·.renew d f)) := fun d =>
    keepsLaws_modTracker m ⟨rfl, rfl, rfl, fun h ht =>
      ⟨slotsLawful_congr (t := s.trackers[m]) rfl h,
        trackerLawful_of_enabled (t := s.trackers[m].renew d f) (enabled_of_capture (t := s.trackers[m]) ht hc) hc⟩⟩
  unfold State.renew
  dsimp only
  split
  · exact hmod _
  · exact (hmod _).trans (keepsLaws_raise ..)

theorem keepsLaws_lookForPair (m : ModuleId) : KeepsLaws s (s.lookForPair m) := by
  unfold State.lookForPair
  repeat' split
  all_goals first | exact .refl s | exact .of_reg _

/-- A module back to IDLE whose open frame is dropped. -/
theorem keepsLaws_dropToIdle (m : ModuleId) (hc : s.trackers[m].capture ≠ .disabled) :
    KeepsLaws s ((s.returnFill m).setIdle m) :=
  keepsLaws_dropFrame m rfl rfl rfl (trackerLawful_setCapture hc nofun)

theorem keepsLaws_setIdle (m : ModuleId) (hc : s.trackers[m].capture = .discarding) : KeepsLaws s (s.setIdle m) := by
  refine keepsLaws_modTracker m ⟨rfl, rfl, rfl, fun h ht => ⟨slotsLawful_congr ?_ h, ?_⟩⟩
  · rw [hc]; rfl
  · exact trackerLawful_setCapture (by rw [hc]; nofun) nofun ht

/-- The close of a frame into its slot (R28, R45). -/
theorem keepsLaws_closeSlot (m : ModuleId) (i : Nat) (acc : Option Profile) (t : Trailer)
    (hc : s.trackers[m].capture = .filling i acc) : KeepsLaws s ((s.closeSlot m i acc t).setIdle m) :=
  KeepsLaws.of_module m (f := (·.close i (frameRecord t (s.store.closeOrder + 1) acc))) (g := (·.setCapture .idle))
    (o := s.store.closeOrder + 1) ⟨rfl, rfl, map_extent_modify (Slot.closed_extent · _) i _,
      fun h ht => ⟨slotsLawful_close _ (by rw [hc]; rfl) rfl h, trackerLawful_setCapture (by rw [hc]; nofun) nofun ht⟩⟩

theorem capture_setIdle (m : ModuleId) : (s.setIdle m).trackers[m].capture ≠ .disabled := by
  have hi : (s.setIdle m).trackers[m].capture = .idle := by
    show (upd s.trackers m _)[m].capture = .idle
    rw [upd_get, if_pos rfl]
    rfl
  rw [hi]
  nofun

/-- Liveness renewed at a module that has gone IDLE. -/
theorem keepsLaws_renewIdle {s' : State} {m : ModuleId} (h : KeepsLaws s (s'.setIdle m)) (f : Word) :
    KeepsLaws s ((s'.setIdle m).renew m f) :=
  h.trans (keepsLaws_renew m f (capture_setIdle m))

theorem keepsLaws_closeFrameOf (m : ModuleId) (i : Nat) (acc : Option Profile) (t : Trailer)
    (hc : s.trackers[m].capture = .filling i acc) : KeepsLaws s (s.closeFrameOf m i acc t) := by
  unfold State.closeFrameOf
  extract_lets closed
  have hclosed : KeepsLaws s closed := keepsLaws_renewIdle (keepsLaws_closeSlot m i acc t hc) t.frame
  have hbar := hclosed.trans (keepsLaws_modModule m (f := fun x => { x with barred := false }) fun _ h => h)
  exact hbar.trans (keepsLaws_lookForPair m)

/-- TRAILER_BAD and the renewal that follows it (R27 to R30). -/
theorem keepsLaws_badTrailer {s' : State} {m : ModuleId} (h : KeepsLaws s s') (hc : s'.trackers[m].capture ≠ .disabled)
    (f : Word) (r : Nat) : KeepsLaws s ((s'.trailerBad m f r).renew m f) :=
  (h.trans (keepsLaws_raise ..)).trans (keepsLaws_renew m f (by rw [State.raise_trackers]; exact hc))

theorem keepsLaws_trailer (m : ModuleId) (t : Trailer) : KeepsLaws s (s.trailer m t) := by
  unfold State.trailer
  split
  · rename_i i acc hc
    split
    · exact keepsLaws_closeFrameOf m i acc t hc
    · exact keepsLaws_badTrailer (keepsLaws_dropToIdle m (by rw [hc]; nofun)) (capture_setIdle m) ..
  · rename_i hc
    split
    · exact keepsLaws_renewIdle (keepsLaws_setIdle m hc) _
    · exact keepsLaws_badTrailer (keepsLaws_setIdle m hc) (capture_setIdle m) ..
  · rename_i hc
    exact keepsLaws_badTrailer (.refl s) (by rw [hc]; nofun) ..
  · exact .refl s

theorem keepsLaws_malformed (m : ModuleId) : KeepsLaws s (s.malformed m) := by
  unfold State.malformed
  split
  · rename_i ho
    refine (keepsLaws_dropToIdle m fun hc => ?_).trans (keepsLaws_raise ..)
    rw [hc] at ho
    cases ho
  · exact .refl s

theorem keepsLaws_trailerWrite (m : ModuleId) (p o : Nat) (x : Transaction) : KeepsLaws s (s.trailerWrite m p o x) := by
  unfold State.trailerWrite
  dsimp only
  split
  · exact (keepsLaws_trailer ..).trans (keepsLaws_answer ..)
  · exact (keepsLaws_malformed m).trans (keepsLaws_answer ..)

theorem keepsLaws_livenessExpiry (m : ModuleId) : KeepsLaws s (s.livenessExpiry m) := by
  unfold State.livenessExpiry
  split
  · exact .refl s
  · split
    · have hfill : (s.trackers[m].expire).capture.fillSlot = none := by
        unfold Tracker.expire
        dsimp only
        cases s.trackers[m].capture <;> rfl
      have hdis : (s.trackers[m].expire).capture = .disabled ↔ s.trackers[m].capture = .disabled := by
        unfold Tracker.expire
        dsimp only
        cases s.trackers[m].capture <;> simp [Capture.isOpen]
      exact (keepsLaws_dropFrame m (g := Tracker.expire) rfl rfl hfill
        fun ht => ⟨hdis.trans ht.1, fun _ => rfl⟩).trans (keepsLaws_raise ..)
    · exact .refl s

/-! ### Acceptance (R6 to R18) -/

theorem keepsLaws_refuseWrite (p k : Nat) (q : Byte) (r : Nat) : KeepsLaws s (s.refuseWrite p k q r) :=
  (keepsLaws_answer ..).trans (keepsLaws_raise ..)

theorem keepsLaws_captureWrite (m : ModuleId) (p o : Nat) (x : Transaction) : KeepsLaws s (s.captureWrite m p o x) := by
  unfold State.captureWrite
  split
  · split
    · exact keepsLaws_pixelWrite ..
    · exact keepsLaws_trailerWrite ..
  · exact keepsLaws_refuseWrite ..

theorem keepsLaws_captureRead (m : ModuleId) (p o : Nat) (x : Transaction) : KeepsLaws s (s.captureRead m p o x) := by
  unfold State.captureRead
  split
  · split
    · exact keepsLaws_forward ..
    · exact keepsLaws_answer ..
  · exact keepsLaws_answer ..

theorem keepsLaws_controlAccess (p : Nat) (x : Transaction) : KeepsLaws s (s.controlAccess p x) := by
  unfold State.controlAccess
  dsimp only
  split
  · exact (keepsLaws_forward ..).trans (keepsLaws_cellWrite ..)
  · exact keepsLaws_forward ..

theorem keepsLaws_slotAccess (m : ModuleId) (i p : Nat) (x : Transaction) : KeepsLaws s (s.slotAccess m i p x) := by
  unfold State.slotAccess
  split
  · exact keepsLaws_refuseWrite ..
  · exact keepsLaws_forward ..

theorem keepsLaws_acceptClass (p : Nat) (x : Transaction) (c : Option ByteClass) :
    KeepsLaws s (s.acceptClass p x c) := by
  unfold State.acceptClass
  split
  · exact (keepsLaws_answer ..).trans (keepsLaws_raise ..)
  · dsimp only
    split
    · exact keepsLaws_captureWrite ..
    · exact keepsLaws_captureRead ..
  · split
    · exact keepsLaws_refuseWrite ..
    · exact keepsLaws_acceptViewRead ..
  · exact keepsLaws_controlAccess ..
  · exact keepsLaws_slotAccess ..
  · exact keepsLaws_forward ..
  · exact keepsLaws_forward ..

theorem keepsLaws_accept (x : Transaction) : KeepsLaws s (s.accept x) :=
  (keepsLaws_enqueue s x.requester).trans (keepsLaws_acceptClass ..)

end

theorem keepsLaws_drain (xs : List Transaction) (s : State) : KeepsLaws s (drain xs s) := by
  induction xs generalizing s with
  | nil => exact .of_traffic rfl rfl (Nat.le_refl _)
  | cons x xs ih =>
    unfold drain
    split
    · exact .of_traffic rfl rfl (Nat.le_refl _)
    · exact (keepsLaws_accept x).trans (ih _)

theorem keepsLaws_finish (s : State) : KeepsLaws s s.finish := (keepsLaws_drain ..).trans (keepsLaws_deliver _)

theorem keepsLaws_arrive (s : State) (x : Transaction) : KeepsLaws s (s.arrive x) := by
  unfold State.arrive
  split
  · exact (keepsLaws_drain ..).trans (keepsLaws_deliver _)
  · exact .refl s

theorem keepsLaws_memoryAnswer (s : State) (p : Nat) (a : MemAnswer) : KeepsLaws s (s.memoryAnswer p a) := by
  unfold State.memoryAnswer
  split
  · exact .refl s
  · refine KeepsLaws.trans (KeepsLaws.trans ?_ (keepsLaws_answer ..)) (keepsLaws_deliver _)
    exact .of_traffic rfl rfl (Nat.le_refl _)

theorem keepsLaws_completeRegistration (s : State) : KeepsLaws s s.completeRegistration := by
  unfold State.completeRegistration
  split
  · exact .refl s
  · exact .of_reg _

/-! ### Every command -/

/-- A command of the cell is taken with its sequence word; after a RESET_ALL what waits at the port goes on (R17, R18). -/
theorem exec_cellCommand {i : Instr} {q : Word} {c : Command} (h : cellCommand i = some (q, c)) (s : State) :
    exec i s = .next
      (if c = .resetAll then ((s.atTime (eventTime i)).take q c).finish else (s.atTime (eventTime i)).take q c) := by
  cases i <;> cases h <;> rfl

/-- Every command leaves a next state that keeps each law. -/
theorem exec_keepsLaws (c : Instr) (s : State) : ∃ s', exec c s = .next s' ∧ KeepsLaws s s' := by
  cases hc : cellCommand c with
  | some qc =>
    refine ⟨_, exec_cellCommand hc s, ?_⟩
    have hk : KeepsLaws s ((s.atTime (eventTime c)).take qc.1 qc.2) := (keepsLaws_atTime ..).trans (keepsLaws_take ..)
    split
    · exact hk.trans (keepsLaws_finish _)
    · exact hk
  | none =>
    cases c <;> cases hc
    case none.upstreamTransaction.refl t x => exact ⟨_, rfl, (keepsLaws_atTime s t).trans (keepsLaws_arrive ..)⟩
    case none.memoryAnswer.refl t p a => exact ⟨_, rfl, (keepsLaws_atTime s t).trans (keepsLaws_memoryAnswer ..)⟩
    case none.livenessExpiry.refl t m => exact ⟨_, rfl, (keepsLaws_atTime s t).trans (keepsLaws_livenessExpiry m)⟩
    case none.registrationCompletion.refl t => exact ⟨_, rfl, (keepsLaws_atTime s t).trans (keepsLaws_completeRegistration _)⟩
    case none.fetchAnswer.refl t e g n a =>
      exact ⟨_, rfl, ((keepsLaws_atTime s t).trans (keepsLaws_fetchAnswer ..)).trans (keepsLaws_finish _)⟩
    case none.fetchTimeout.refl t e =>
      exact ⟨_, rfl, ((keepsLaws_atTime s t).trans (keepsLaws_fetchTimeout ..)).trans (keepsLaws_finish _)⟩
    case none.viewReadCompletion.refl t e =>
      exact ⟨_, rfl, ((keepsLaws_atTime s t).trans (keepsLaws_completeRead ..)).trans (keepsLaws_finish _)⟩
    case none.loadSlotsEnd.refl t n a b =>
      exact ⟨_, rfl, (keepsLaws_atTime s t).trans (keepsLaws_loadSlotsEnd n a (by simp))⟩
    case none.dumpSlotsEnd.refl t n a i => exact ⟨_, rfl, (keepsLaws_atTime s t).trans (keepsLaws_dumpSlotsEnd n a i)⟩
    case none.loadCalibrationEnd.refl t n a b =>
      exact ⟨_, rfl, (keepsLaws_atTime s t).trans (keepsLaws_loadCalibrationEnd n a (by simp))⟩
    case none.portReset.refl t => exact ⟨_, rfl, (keepsLaws_atTime s t).trans (keepsLaws_portReset _)⟩
    case none.agentWriteAnswer.refl t n b => exact ⟨_, rfl, (keepsLaws_atTime s t).trans (keepsLaws_agentWriteAnswer ..)⟩

/-- The waiting commands are in no law. -/
theorem keepsLaws_pending (s : State) (cs : List Instr) : KeepsLaws s { s with pending := cs } :=
  ⟨id, id, id, id, id, id, id, id, id, id⟩

/-- Every step keeps each law. -/
theorem step_keepsLaws {s s' : State} (h : step s = .next s') : KeepsLaws s s' := by
  unfold step at h
  split at h
  · cases h
    exact .refl s
  · rename_i c cs _
    obtain ⟨s'', he, hk⟩ := exec_keepsLaws c { s with pending := cs }
    rw [he] at h
    cases h
    exact (keepsLaws_pending s cs).trans hk

/-- Settles O4, by what every step keeps. -/
theorem eventAndAttentionLawsKept : Obligations.EventAndAttentionLawsKept :=
  ⟨fun _ _ hl h => (step_keepsLaws h).attention hl, fun _ _ hl h => (step_keepsLaws h).event hl⟩

/-- Settles O5, by what every step keeps; an advance keeps the gains by `gainsOk_advanceStages`. -/
theorem gainLawKept : Obligations.GainLawKept := fun _ _ hl h => (step_keepsLaws h).gain hl

/-- Settles O6, by what every step keeps; an advance keeps the hand-off state by `handoff_advanceStages`. -/
theorem handoffLawKept : Obligations.HandoffLawKept := fun _ _ hl h => (step_keepsLaws h).handoff hl

/-- Settles O7, by what every step keeps; an advance keeps the zoom by `zoomOk_advanceStages`. -/
theorem zoomLawKept : Obligations.ZoomLawKept := fun _ _ hl h => (step_keepsLaws h).zoom hl

/-- Settles O8, by what every step keeps. -/
theorem slotLawKept : Obligations.SlotLawKept := fun _ _ hl h => (step_keepsLaws h).slot hl

/-- Settles O9, by what every step keeps; a new window is apart from the others by `layout_of_passes`. -/
theorem windowLawsKept : Obligations.WindowLawsKept :=
  ⟨fun _ _ hl h => (step_keepsLaws h).window hl, fun _ _ hl h => (step_keepsLaws h).layout hl⟩

/-- Settles O10, by what every step keeps; fetches are issued by `readLawful_issue`. -/
theorem fetchLawKept : Obligations.FetchLawKept :=
  ⟨fun _ _ hl h => (step_keepsLaws h).fetch hl, fun _ _ hl h => (step_keepsLaws h).progress hl⟩

end Sys2Proof.Machine
end

section
/-! The answer queues (R17): what the delivery of ready answers does, and which operations leave the queues alone; what
every command leaves of the waiting commands, the integration and the serial numbers; the state after reset. -/

namespace Sys2Proof.Machine

-- Declaration after declaration: elaborated side by side, those of the joined text need more memory than the check has.
set_option Elab.async false

/-! ### Delivery (R17) -/

/-- Nothing of a blocked requester is returned. -/
theorem splitReady_blocked (r : Byte) (bl : List Byte) (q : List QueueEntry) (h : r ∈ bl) :
    (splitReady bl q).2.filter (·.requester == r) = [] := by
  induction q generalizing bl with
  | nil => rfl
  | cons e q ih =>
    unfold splitReady
    split
    · exact ih bl h
    · rename_i hb
      split
      · have hne : e.requester ≠ r := by rintro rfl; exact hb (List.contains_iff_mem.2 h)
        simpa [hne] using ih bl h
      · exact ih _ (List.mem_cons_of_mem _ h)

/-- Of one requester, the places returned and then the places that stay are those queued, in order. -/
theorem splitReady_places (r : Byte) (bl : List Byte) (q : List QueueEntry) :
    ((splitReady bl q).2.filter (·.requester == r)).map (·.place)
        ++ ((splitReady bl q).1.filter (·.requester == r)).map (·.place)
      = (q.filter (·.requester == r)).map (·.place) := by
  induction q generalizing bl with
  | nil => rfl
  | cons e q ih =>
    unfold splitReady
    split
    · rename_i hb
      by_cases hr : e.requester = r
      · subst hr
        have hnone := splitReady_blocked e.requester bl q (List.contains_iff_mem.1 hb)
        simpa [hnone] using ih bl
      · simpa [hr] using ih bl
    · split
      · by_cases hr : e.requester = r
        · simpa [hr] using ih bl
        · simpa [hr] using ih bl
      · by_cases hr : e.requester = r
        · subst hr
          have hnone := splitReady_blocked e.requester (e.requester :: bl) q List.mem_cons_self
          simpa [hnone] using ih (e.requester :: bl)
        · simpa [hr] using ih (e.requester :: bl)

/-- What is returned was ready in its place. -/
theorem splitReady_returned {bl : List Byte} {q : List QueueEntry} {y : Returned} (h : y ∈ (splitReady bl q).2) :
    ∃ e ∈ q, e.requester = y.requester ∧ e.place = y.place ∧ e.answer = some y.answer := by
  induction q generalizing bl with
  | nil => cases h
  | cons e q ih =>
    have later : (∃ e ∈ q, e.requester = y.requester ∧ e.place = y.place ∧ e.answer = some y.answer) →
        ∃ e' ∈ e :: q, e'.requester = y.requester ∧ e'.place = y.place ∧ e'.answer = some y.answer :=
      fun ⟨e', he', h'⟩ => ⟨e', List.mem_cons_of_mem _ he', h'⟩
    unfold splitReady at h
    split at h
    · exact later (ih h)
    · split at h
      · rename_i a ha
        rcases List.mem_cons.1 h with rfl | h
        · exact ⟨e, List.mem_cons_self, rfl, rfl, ha⟩
        · exact later (ih h)
      · exact later (ih h)

/-- What stays was queued. -/
theorem splitReady_kept (bl : List Byte) (q : List QueueEntry) : (splitReady bl q).1.Sublist q := by
  induction q generalizing bl with
  | nil => exact .refl _
  | cons e q ih =>
    unfold splitReady
    split
    · exact (ih bl).cons_cons e
    · split
      · exact (ih bl).cons e
      · exact (ih _).cons_cons e

/-- The oldest entry that stays of a requester that is not blocked is not ready. -/
theorem splitReady_head {r : Byte} {bl : List Byte} {q : List QueueEntry} (hr : r ∉ bl) {e : QueueEntry}
    (h : (splitReady bl q).1.find? (·.requester == r) = some e) : e.answer = none := by
  induction q generalizing bl with
  | nil => cases h
  | cons x q ih =>
    unfold splitReady at h
    split at h
    · rename_i hb
      have hne : x.requester ≠ r := by rintro rfl; exact hr (List.contains_iff_mem.1 hb)
      rw [List.find?_cons_of_neg (by simpa using hne)] at h
      exact ih hr h
    · split at h
      · exact ih hr h
      · rename_i hn
        by_cases hx : x.requester = r
        · rw [List.find?_cons_of_pos (by simpa using hx)] at h
          cases h
          exact hn
        · rw [List.find?_cons_of_neg (by simpa using hx)] at h
          exact ih (by simp [hr, Ne.symm hx]) h

/-- Settles O49: the five clauses are the facts about `splitReady` with no requester blocked. -/
theorem answersReturnInOrder : Obligations.AnswersReturnInOrder := by
  intro s r
  exact ⟨_, rfl, splitReady_places r [] _, fun _ hy => splitReady_returned hy, fun _ he => (splitReady_kept [] _).mem he,
    fun _ he => splitReady_head List.not_mem_nil he⟩

/-- After a delivery no requester's oldest transaction is answered. -/
theorem queueLaw_deliver (s : State) : QueueLaw s.deliver := fun _ _ h => splitReady_head List.not_mem_nil h

/-! ### What leaves the queues alone -/

theorem queue_finishCommand {s : State} (q : Word) (k : Nat) (b : Bool) {e : Ended} (h : e.1.path.queue = s.path.queue) :
    (finishCommand q k b e).path.queue = s.path.queue := by
  unfold finishCommand
  dsimp only
  split
  · exact h
  · exact h

theorem queue_finishTimed {s : State} (q : Word) (k : Nat) (b : Bool) {e : Ended} (h : e.1.path.queue = s.path.queue) :
    (finishTimed q k b e).path.queue = s.path.queue :=
  queue_finishCommand q k b (e := (e.1.raise (commandDoneRaise q k e.2), e.2)) h

theorem queue_startTimed (s : State) (q : Word) (k : Nat) (x : Triggered) :
    (startTimed q k s x).path.queue = s.path.queue := by
  cases x with
  | ended r => exact queue_finishTimed q k false rfl
  | started op => rfl

theorem queue_configureModule (m o w h d : Word) (a : Addr) (l : Word) (s : State) :
    (cmdConfigureModule m o w h d a l s).1.path.queue = s.path.queue := by
  unfold cmdConfigureModule
  split
  · rfl
  · split
    · rfl
    · split
      · rfl
      · dsimp only
        split <;> rfl

theorem queue_enableModule (m : Word) (s : State) : (cmdEnableModule m s).1.path.queue = s.path.queue := by
  unfold cmdEnableModule
  repeat' split
  all_goals rfl

theorem queue_disableModule (m : Word) (s : State) : (cmdDisableModule m s).1.path.queue = s.path.queue := by
  unfold cmdDisableModule
  repeat' split
  all_goals rfl

theorem queue_resetModule (m : Word) (s : State) : (cmdResetModule m s).1.path.queue = s.path.queue := by
  unfold cmdResetModule
  repeat' split
  all_goals rfl

theorem queue_holdFrame (m : Word) (s : State) : (cmdHoldFrame m s).1.path.queue = s.path.queue := by
  unfold cmdHoldFrame
  repeat' split
  all_goals rfl

theorem queue_releaseHold (m k : Word) (s : State) : (cmdReleaseHold m k s).1.path.queue = s.path.queue := by
  unfold cmdReleaseHold
  split
  · rfl
  · split
    · dsimp only
      split <;> rfl
    · rfl

theorem queue_setField (w lo hi : Word) (s : State) : (cmdSetField w lo hi s).1.path.queue = s.path.queue := by
  unfold cmdSetField
  repeat' split
  all_goals rfl

theorem queue_zoomTo (z r : Word) (s : State) : (cmdZoomTo z r s).1.path.queue = s.path.queue := by
  unfold cmdZoomTo
  dsimp only
  split <;> rfl

theorem queue_forceModule (m : Word) (s : State) : (cmdForceModule m s).1.path.queue = s.path.queue := by
  unfold cmdForceModule
  repeat' split
  all_goals rfl

theorem queue_freeze (s : State) : (cmdFreeze s).1.path.queue = s.path.queue := by
  unfold cmdFreeze
  split <;> rfl

theorem queue_thaw (s : State) : (cmdThaw s).1.path.queue = s.path.queue := by
  unfold cmdThaw
  split <;> rfl

theorem queue_configureView (v w h d : Word) (a : Addr) (l : Word) (s : State) :
    (cmdConfigureView v w h d a l s).1.path.queue = s.path.queue := by
  unfold cmdConfigureView
  split
  · rfl
  · split
    · rfl
    · split
      · rfl
      · dsimp only
        split <;> rfl

theorem queue_enableView (v : Word) (s : State) : (cmdEnableView v s).1.path.queue = s.path.queue := by
  unfold cmdEnableView
  repeat' split
  all_goals rfl

theorem queue_closeAny (s : State) (v : ViewId) (f : FrameName) : (s.closeAny v f).path.queue = s.path.queue := by
  unfold State.closeAny
  split <;> rfl

theorem queue_disableView (v : Word) (s : State) : (cmdDisableView v s).1.path.queue = s.path.queue := by
  unfold cmdDisableView
  split
  · rfl
  · split
    · rfl
    · split
      · rfl
      · exact (queue_closeAny _ _ .b).trans (queue_closeAny s _ .a)

/-- A command other than RESET_ALL leaves the answer queues alone. -/
theorem queue_dispatch (q : Word) {c : Command} (hc : c ≠ .resetAll) (s : State) :
    (dispatch q c s).path.queue = s.path.queue := by
  cases c with
  | configureModule => exact queue_finishCommand _ _ _ (queue_configureModule ..)
  | enableModule => exact queue_finishCommand _ _ _ (queue_enableModule ..)
  | disableModule => exact queue_finishCommand _ _ _ (queue_disableModule ..)
  | resetModule => exact queue_finishCommand _ _ _ (queue_resetModule ..)
  | loadSlots => exact queue_startTimed ..
  | holdFrame => exact queue_finishCommand _ _ _ (queue_holdFrame ..)
  | releaseHold => exact queue_finishCommand _ _ _ (queue_releaseHold ..)
  | dumpSlots => exact queue_startTimed ..
  | loadCalibration => exact queue_startTimed ..
  | setField => exact queue_finishCommand _ _ _ (queue_setField ..)
  | zoomTo => exact queue_finishCommand _ _ _ (queue_zoomTo ..)
  | forceModule => exact queue_finishCommand _ _ _ (queue_forceModule ..)
  | releaseForce => exact queue_finishCommand _ _ _ rfl
  | setHandoff => exact queue_finishCommand _ _ _ rfl
  | freeze => exact queue_finishCommand _ _ _ (queue_freeze s)
  | thaw => exact queue_finishCommand _ _ _ (queue_thaw s)
  | configureView => exact queue_finishCommand _ _ _ (queue_configureView ..)
  | enableView => exact queue_finishCommand _ _ _ (queue_enableView ..)
  | disableView => exact queue_finishCommand _ _ _ (queue_disableView ..)
  | clearEvents => exact queue_finishCommand _ _ _ rfl
  | setAttention => exact queue_finishCommand _ _ _ rfl
  | resetAll => exact absurd rfl hc

theorem queue_take (q : Word) {c : Command} (hc : c ≠ .resetAll) (s : State) :
    (s.take q c).path.queue = s.path.queue := by
  unfold State.take
  rw [if_neg hc]
  split
  · rfl
  · exact queue_dispatch q hc s

theorem queue_takeReads {n : Nat} (s : State) (f : InFlight) (k : Bool) (a : AccessAnswers n) (b : List Byte)
    {failed : Nat → Ended} {read : List Byte → Ended} (hf : ∀ j, (failed j).1.path.queue = s.path.queue)
    (hr : ∀ b, (read b).1.path.queue = s.path.queue) : (s.takeReads f k a b failed read).path.queue = s.path.queue := by
  unfold State.takeReads
  split
  · exact queue_finishTimed _ _ _ (hf _)
  · dsimp only
    split
    · exact queue_finishTimed _ _ _ (hr _)
    · rfl

theorem queue_loadSlotsEnd (s : State) (n : Nat) (a : AccessAnswers 8) (b : List Byte) :
    (s.loadSlotsEnd n a b).path.queue = s.path.queue := by
  unfold State.loadSlotsEnd
  repeat' split
  any_goals rfl
  refine queue_takeReads _ _ _ _ _ (fun _ => rfl) fun _ => ?_
  unfold endLoadSlots
  dsimp only
  split <;> rfl

theorem queue_dumpSlotsEnd (s : State) (n : Nat) (a : AccessAnswers 8) (i : Nat) :
    (s.dumpSlotsEnd n a i).path.queue = s.path.queue := by
  unfold State.dumpSlotsEnd
  repeat' split
  any_goals rfl
  unfold State.takeWrites
  dsimp only
  split
  · exact queue_finishTimed _ _ _ rfl
  · split
    · exact queue_finishTimed _ _ _ rfl
    · rfl

theorem queue_loadCalibrationEnd (s : State) (n : Nat) (a : AccessAnswers 12) (b : List Byte) :
    (s.loadCalibrationEnd n a b).path.queue = s.path.queue := by
  unfold State.loadCalibrationEnd
  repeat' split
  any_goals rfl
  refine queue_takeReads _ _ _ _ _ (fun _ => rfl) fun _ => ?_
  unfold endLoadCalibration
  split <;> rfl

theorem queue_livenessExpiry (s : State) (m : ModuleId) : (s.livenessExpiry m).path.queue = s.path.queue := by
  unfold State.livenessExpiry
  split
  · rfl
  · split <;> rfl

theorem queue_completeRegistration (s : State) : s.completeRegistration.path.queue = s.path.queue := by
  unfold State.completeRegistration
  split <;> rfl

/-- Queues that stay as they were keep the law. -/
theorem queueLaw_congr {s s' : State} (h : s'.path.queue = s.path.queue) (hs : QueueLaw s) : QueueLaw s' := by
  unfold QueueLaw
  rwa [h]

theorem queueLaw_arrive {s : State} (x : Transaction) (h : QueueLaw s) : QueueLaw (s.arrive x) := by
  unfold State.arrive
  split
  · exact queueLaw_deliver _
  · exact h

theorem queueLaw_memoryAnswer {s : State} (p : Nat) (a : MemAnswer) (h : QueueLaw s) : QueueLaw (s.memoryAnswer p a) := by
  unfold State.memoryAnswer
  split
  · exact h
  · exact queueLaw_deliver _

/-- Every command either delivers at its end, or leaves the queues alone, or empties them. -/
theorem exec_queueLaw (c : Instr) {s : State} (h : QueueLaw s) : ∃ s', exec c s = .next s' ∧ QueueLaw s' := by
  cases hc : cellCommand c with
  | some qc =>
    refine ⟨_, exec_cellCommand hc s, ?_⟩
    split
    · exact queueLaw_deliver _
    · rename_i hr
      exact queueLaw_congr (queue_take _ hr _) h
  | none =>
    cases c <;> cases hc
    case none.upstreamTransaction.refl t x => exact ⟨_, rfl, queueLaw_arrive x h⟩
    case none.memoryAnswer.refl t p a => exact ⟨_, rfl, queueLaw_memoryAnswer p a h⟩
    case none.livenessExpiry.refl t m => exact ⟨_, rfl, queueLaw_congr (queue_livenessExpiry ..) h⟩
    case none.registrationCompletion.refl t => exact ⟨_, rfl, queueLaw_congr (queue_completeRegistration _) h⟩
    case none.fetchAnswer.refl t e g n a => exact ⟨_, rfl, queueLaw_deliver _⟩
    case none.fetchTimeout.refl t e => exact ⟨_, rfl, queueLaw_deliver _⟩
    case none.viewReadCompletion.refl t e => exact ⟨_, rfl, queueLaw_deliver _⟩
    case none.loadSlotsEnd.refl t n a b => exact ⟨_, rfl, queueLaw_congr (queue_loadSlotsEnd ..) h⟩
    case none.dumpSlotsEnd.refl t n a i => exact ⟨_, rfl, queueLaw_congr (queue_dumpSlotsEnd ..) h⟩
    case none.loadCalibrationEnd.refl t n a b => exact ⟨_, rfl, queueLaw_congr (queue_loadCalibrationEnd ..) h⟩
    case none.portReset.refl t => exact ⟨_, rfl, fun _ _ hf => by cases hf⟩
    case none.agentWriteAnswer.refl t n b => exact ⟨_, rfl, queueLaw_congr rfl h⟩

/-- Settles O11: a step delivers at its end or leaves the queues alone. -/
theorem queueLawKept : Obligations.QueueLawKept := by
  intro s s' hl h
  unfold step at h
  split at h
  · cases h
    exact hl
  · rename_i c cs _
    obtain ⟨s'', he, hk⟩ := exec_queueLaw c (s := { s with pending := cs }) hl
    rw [he] at h
    cases h
    exact hk

/-! ### The event's time, the integration and the serial numbers -/

/-- What the rest of an event leaves of the model's own counters (log 1, 3). -/
def RunsOn (s s' : State) : Prop :=
  s'.pending = s.pending ∧ s'.cfg = s.cfg ∧ s'.time = s.time ∧ s.serial ≤ s'.serial

theorem RunsOn.trans {a b c : State} (h : RunsOn a b) (h' : RunsOn b c) : RunsOn a c := by
  obtain ⟨h1, h2, h3, h4⟩ := h
  obtain ⟨h1', h2', h3', h4'⟩ := h'
  exact ⟨h1'.trans h1, h2'.trans h2, h3'.trans h3, h4.trans h4'⟩

theorem Keeps.runsOn {s s' : State} (h : Keeps s s') : RunsOn s s' := by
  obtain ⟨h1, h2, h3, -, h5⟩ := h
  exact ⟨h1, h2, h3, h5⟩

theorem runsOn_drain (xs : List Transaction) (s : State) : RunsOn s (drain xs s) := by
  induction xs generalizing s with
  | nil => exact ⟨rfl, rfl, rfl, Nat.le_refl _⟩
  | cons x xs ih =>
    unfold drain
    split
    · exact ⟨rfl, rfl, rfl, Nat.le_refl _⟩
    · exact (keeps_accept s x).runsOn.trans (ih _)

theorem runsOn_finish (s : State) : RunsOn s s.finish := (runsOn_drain ..).trans (keeps_deliver _).runsOn

theorem runsOn_arrive (s : State) (x : Transaction) : RunsOn s (s.arrive x) := by
  unfold State.arrive
  split
  · exact (runsOn_drain ..).trans (keeps_deliver _).runsOn
  · exact (Keeps.refl s).runsOn

theorem runsOn_memoryAnswer (s : State) (p : Nat) (a : MemAnswer) : RunsOn s (s.memoryAnswer p a) := by
  unfold State.memoryAnswer
  split
  · exact (Keeps.refl s).runsOn
  · exact ⟨rfl, rfl, rfl, Nat.le_refl _⟩

theorem runsOn_livenessExpiry (s : State) (m : ModuleId) : RunsOn s (s.livenessExpiry m) := by
  unfold State.livenessExpiry
  split
  · exact (Keeps.refl s).runsOn
  · split
    · exact ⟨rfl, rfl, rfl, Nat.le_refl _⟩
    · exact (Keeps.refl s).runsOn

theorem runsOn_completeRegistration (s : State) : RunsOn s s.completeRegistration := by
  unfold State.completeRegistration
  split
  · exact (Keeps.refl s).runsOn
  · exact ⟨rfl, rfl, rfl, Nat.le_refl _⟩

/-- Every command runs on from the state at its time count. -/
theorem exec_runsOn (c : Instr) (s : State) : ∃ s', exec c s = .next s' ∧ RunsOn (s.atTime (eventTime c)) s' := by
  cases hc : cellCommand c with
  | some qc =>
    refine ⟨_, exec_cellCommand hc s, ?_⟩
    split
    · exact (keeps_take ..).runsOn.trans (runsOn_finish _)
    · exact (keeps_take ..).runsOn
  | none =>
    cases c <;> cases hc
    case none.upstreamTransaction.refl t x => exact ⟨_, rfl, runsOn_arrive ..⟩
    case none.memoryAnswer.refl t p a => exact ⟨_, rfl, runsOn_memoryAnswer ..⟩
    case none.livenessExpiry.refl t m => exact ⟨_, rfl, runsOn_livenessExpiry ..⟩
    case none.registrationCompletion.refl t => exact ⟨_, rfl, runsOn_completeRegistration _⟩
    case none.fetchAnswer.refl t e g n a => exact ⟨_, rfl, (keeps_fetchAnswer ..).runsOn.trans (runsOn_finish _)⟩
    case none.fetchTimeout.refl t e => exact ⟨_, rfl, (keeps_fetchTimeout ..).runsOn.trans (runsOn_finish _)⟩
    case none.viewReadCompletion.refl t e => exact ⟨_, rfl, (keeps_completeRead ..).runsOn.trans (runsOn_finish _)⟩
    case none.loadSlotsEnd.refl t n a b => exact ⟨_, rfl, (keeps_loadSlotsEnd ..).runsOn⟩
    case none.dumpSlotsEnd.refl t n a i => exact ⟨_, rfl, (keeps_dumpSlotsEnd ..).runsOn⟩
    case none.loadCalibrationEnd.refl t n a b => exact ⟨_, rfl, (keeps_loadCalibrationEnd ..).runsOn⟩
    case none.portReset.refl t => exact ⟨_, rfl, rfl, rfl, rfl, Nat.le_refl _⟩
    case none.agentWriteAnswer.refl t n b => exact ⟨_, rfl, rfl, rfl, rfl, Nat.le_refl _⟩

/-- Settles O2, by what every command runs on from. -/
theorem execKeepsQueueAndConfig : Obligations.ExecKeepsQueueAndConfig := exec_runsOn

/-- Settles O1: a step is read off its definition. -/
theorem stepRunsFrontCommand : Obligations.StepRunsFrontCommand := by
  refine ⟨fun _ _ _ => rfl, fun s h => ?_⟩
  unfold step
  rw [h]

/-! ### The state after reset -/

theorem cleared_state_reset : State.reset.Cleared := ⟨rfl, rfl, rfl, rfl, rfl, rfl, rfl, rfl, rfl, rfl, rfl⟩

/-- Only the control page is placed after a port reset. -/
theorem layoutLaw_reset : LayoutLaw State.reset := by
  unfold LayoutLaw
  decide

/-- Settles O3: the reset state is at its reset values. -/
theorem resetMeetsTheLaws : Obligations.ResetMeetsTheLaws :=
  have h := cleared_state_reset
  ⟨h.attentionLaw, h.eventLaw, h.gainLaw, h.handoffLaw, h.zoomLaw, h.slotLaw, h.windowLaw, layoutLaw_reset,
    h.fetchLaw, h.progressLaw, fun _ _ hf => by cases hf⟩

end Sys2Proof.Machine
end

section
/-! The command cell and the Agent (R157 to R168): the cell's layout read back, what a write of the control page stages and
triggers, commands that are not taken, refusals, the event commands and the two resets. -/

namespace Sys2Proof.Machine

-- Declaration after declaration: elaborated side by side, those of the joined text need more memory than the check has.
set_option Elab.async false

/-! ### The layout of the cell (R174) -/

/-- A field past a first stretch of bytes. -/
theorem fieldAt_skip {l : List Byte} {k off : Nat} (h : l.length = k) (hk : k ≤ off) (r : List Byte) (n : Nat) :
    fieldAt (l ++ r) off n = fieldAt r (off - k) n := by
  conv_lhs => rw [← Nat.add_sub_cancel' hk]
  exact fieldAt_append_right h ..

@[simp] theorem length_arg32 (a : Word) : (arg32 a).length = 4 := length_leBytes ..
@[simp] theorem length_arg64 (a : Addr) : (arg64 a).length = 8 := length_leBytes ..

theorem word_field_arg32 (a : Word) (r : List Byte) : word (fieldAt (arg32 a ++ r) 0 4) = a := by
  have ha : a.toNat < 256 ^ 4 := a.isLt
  rw [arg32, fieldAt_append_left, Nat.mod_eq_of_lt ha, word, BitVec.ofNat_toNat, BitVec.setWidth_eq]

theorem addr_field_arg64 (a : Addr) (r : List Byte) : BitVec.ofNat 64 (fieldAt (arg64 a ++ r) 0 8) = a := by
  have ha : a.toNat < 256 ^ 8 := a.isLt
  rw [arg64, fieldAt_append_left, Nat.mod_eq_of_lt ha, BitVec.ofNat_toNat, BitVec.setWidth_eq]

/-- Every command's arguments end before the sequence word. -/
theorem length_cellArgs_le (c : Command) : (cellArgs c).length ≤ 32 := by cases c <;> simp [cellArgs]

/-- What follows the arguments of a cell: unused bytes, then the sequence word. -/
def cellRest (q : Word) (c : Command) : List Byte := zeros (56 - (cellArgs c).length) ++ leBytes 4 q.toNat

theorem cellBytes_eq (q : Word) (c : Command) :
    cellBytes q c = (leBytes 2 c.kind ++ zeros 2) ++ (cellArgs c ++ cellRest q c) := by
  simp [cellBytes, cellRest]

theorem length_cellBytes (q : Word) (c : Command) : (cellBytes q c).length = 64 := by
  have := length_cellArgs_le c
  simp [cellBytes]
  omega

theorem kind_le (c : Command) : c.kind ≤ 22 := by cases c <;> simp [Command.kind]

theorem cellKind_cellBytes (q : Word) (c : Command) : cellKind (cellBytes q c) = c.kind := by
  rw [cellBytes_eq, List.append_assoc, cellKind, fieldAt_append_left]
  exact Nat.mod_eq_of_lt (Nat.lt_of_le_of_lt (kind_le c) (by decide))

/-- A field of the arguments, counted from their start. -/
theorem field_cellBytes (q : Word) (c : Command) {off : Nat} (h : 4 ≤ off) (n : Nat) :
    fieldAt (cellBytes q c) off n = fieldAt (cellArgs c ++ cellRest q c) (off - 4) n := by
  rw [cellBytes_eq]
  exact fieldAt_skip (by simp) h ..

theorem cellSeq_cellBytes (q : Word) (c : Command) : cellSeq (cellBytes q c) = q := by
  have hle := length_cellArgs_le c
  have hlen : (cellArgs c ++ zeros (56 - (cellArgs c).length)).length = 56 := by simp; omega
  rw [cellSeq, argAt, field_cellBytes q c (by decide), cellRest, ← List.append_assoc, fieldAt_skip hlen (by decide)]
  simpa [arg32] using word_field_arg32 q []

theorem argAt_cellBytes (q : Word) (c : Command) {off : Nat} (h : 4 ≤ off) :
    argAt (cellBytes q c) off = word (fieldAt (cellArgs c ++ cellRest q c) (off - 4) 4) := by
  rw [argAt, field_cellBytes q c h]

theorem addrAt_cellBytes (q : Word) (c : Command) {off : Nat} (h : 4 ≤ off) :
    addrAt (cellBytes q c) off = BitVec.ofNat 64 (fieldAt (cellArgs c ++ cellRest q c) (off - 4) 8) := by
  rw [addrAt, field_cellBytes q c h]

/-- Past a 32-bit argument. -/
theorem fieldAt_arg32 (a : Word) (r : List Byte) {off : Nat} (h : 4 ≤ off) (n : Nat) :
    fieldAt (arg32 a ++ r) off n = fieldAt r (off - 4) n := fieldAt_skip (by simp) h ..

/-- Past an address argument. -/
theorem fieldAt_arg64 (a : Addr) (r : List Byte) {off : Nat} (h : 8 ≤ off) (n : Nat) :
    fieldAt (arg64 a ++ r) off n = fieldAt r (off - 8) n := fieldAt_skip (by simp) h ..

theorem decodeCell_cellBytes (q : Word) (c : Command) : decodeCell (cellBytes q c) = some c := by
  unfold decodeCell
  rw [cellKind_cellBytes]
  cases c <;>
    simp [Command.kind, cellArgs, argAt_cellBytes, addrAt_cellBytes, fieldAt_arg32, fieldAt_arg64, word_field_arg32,
      addr_field_arg64]

/-- Settles O12: the arguments are read one after another from offset 4, each past those before it. -/
theorem cellDecodesItsLayout : Obligations.CellDecodesItsLayout := fun q c =>
  ⟨length_cellBytes q c, decodeCell_cellBytes q c, cellSeq_cellBytes q c⟩

/-! ### Writes into the control page (R13, R157, R158) -/

/-- An arriving transaction at an idle port that need not stall is accepted, and ready answers are returned. -/
theorem exec_of_accepted (t : Time) {s : State} {x : Transaction} (hq : s.path.waiting = [])
    (hlo : s.cfg.carveBase ≤ x.address.toNat) (hhi : x.address.toNat < s.cfg.carveBase + s.cfg.carveSize)
    (hs : s.stalls x = false) : exec (.upstreamTransaction t x) s = .next ((s.atTime t).accept x).deliver := by
  have hqt : (s.atTime t).path.waiting = [] := hq
  have hr : (s.atTime t).routed x = true := (routed_iff ..).mpr ⟨hlo, hhi⟩
  have hst : (s.atTime t).stalls x = false := hs
  rw [exec_upstreamTransaction, arrive_of_free hqt hr hst]

theorem length_writeBytes {x : Transaction} (h : isWrite x = true) : (writeBytes x).length = x.len := by
  unfold isWrite at h
  unfold writeBytes
  cases hx : x.access with
  | read =>
    rw [hx] at h
    cases h
  | write d =>
    have := x.lenLess1.isLt
    simp [payloadBytes, Transaction.len]
    omega

/-- A transaction has a class exactly when its first and its last byte have it (R6, R7). -/
theorem classify_eq_some (s : State) (x : Transaction) (c : ByteClass) :
    s.classify x = some c
      ↔ s.classAt x.address.toNat = c ∧ s.classAt (x.address.toNat + x.len - 1) = c := by
  unfold State.classify
  dsimp only
  split
  · rename_i h
    rw [Option.some.injEq, ← h, and_self]
  · rename_i h
    exact iff_of_false nofun fun h' => h (h'.1.trans h'.2.symm)

/-- A byte of the control page's class lies in it. -/
theorem contains_of_control {s : State} {a : Nat} (h : s.classAt a = .control) :
    s.cfg.controlPage ≤ a ∧ a < s.cfg.controlPage + 4096 := by
  unfold State.classAt at h
  split at h
  · cases h
  · split at h
    · cases h
    · split at h
      · rename_i hc
        rw [Extent.contains, Bool.and_eq_true, decide_eq_true_eq, decide_eq_true_eq] at hc
        exact hc
      · split at h
        · cases h
        · split at h <;> cases h

/-- A write of class CP at an idle port is forwarded and handed to the Agent (R13). -/
theorem exec_of_controlWrite (t : Time) {s : State} {x : Transaction} (hg : s.cfg.wf = true)
    (hc : s.classify x = some .control) (hx : isWrite x = true) (hq : s.path.waiting = []) :
    exec (.upstreamTransaction t x) s =
      .next ((((s.atTime t).enqueue x.requester).forward s.serial x.address.toNat x).cellWrite
        (x.address.toNat - s.cfg.controlPage) (writeBytes x)).deliver := by
  obtain ⟨hlo, hhi⟩ := contains_of_control ((classify_eq_some ..).1 hc).1
  simp only [Config.wf, Bool.and_eq_true, beq_iff_eq, decide_eq_true_eq] at hg
  obtain ⟨⟨-, hbase⟩, hend⟩ := hg
  have hct : (s.atTime t).classify x = some .control := hc
  rw [exec_of_accepted t hq (by omega) (by omega) (stalls_of_isWrite hx _), State.accept, hct, State.acceptClass,
    State.controlAccess, if_pos hx]
  rfl

/-- The staging copy after a write, with the length of the write. -/
theorem stage_writeBytes {x : Transaction} (hx : isWrite x = true) (off : Nat) (cell : Vector Byte 64) :
    stage off (writeBytes x) cell = Vector.ofFn fun i =>
      if off ≤ i.val ∧ i.val < off + x.len then (writeBytes x).getD (i.val - off) 0 else cell[i] := by
  rw [stage, length_writeBytes hx]

/-- What a triggering write leaves goes on as the trigger of the new staging copy. -/
theorem cellWrite_triggers {s : State} {off : Nat} {b : List Byte} (h1 : off ≤ 60) (h2 : 64 ≤ off + b.length) :
    s.cellWrite off b =
      ({ s with agent := { s.agent with staging := stage off b s.agent.staging } } : State).trigger
        (stage off b s.agent.staging).toList := by
  unfold State.cellWrite
  exact if_pos (by simp [triggers, h1, h2])

theorem cellWrite_quiet {s : State} {off : Nat} {b : List Byte} (h : 60 < off ∨ off + b.length < 64) :
    s.cellWrite off b = { s with agent := { s.agent with staging := stage off b s.agent.staging } } := by
  unfold State.cellWrite
  exact if_neg (by simp only [triggers, Bool.and_eq_true, decide_eq_true_eq]; omega)

/-- A whole cell written is the staging copy. -/
theorem stage_cellBytes (q : Word) (c : Command) (cell : Vector Byte 64) :
    stage 0 (cellBytes q c) cell = Vector.ofFn fun i => (cellBytes q c).getD i 0 := by
  unfold stage
  congr 1
  funext i
  rw [length_cellBytes, if_pos ⟨Nat.zero_le _, by omega⟩]
  rfl

theorem toList_cell (q : Word) (c : Command) :
    (Vector.ofFn fun i : Fin 64 => (cellBytes q c).getD i 0).toList = cellBytes q c := by
  apply List.ext_getElem
  · simp [length_cellBytes]
  · intro i h1 h2
    simp [h2]

/-- Settles O13: the write reaches `State.cellWrite`, which stages it and triggers where it carries the sequence word. -/
theorem cellWriteTakesCommand : Obligations.CellWriteTakesCommand := by
  refine ⟨fun t x q c s hg hc ha hl hx hb hq => ?whole, fun t x s hg hc hx hq => ?part⟩
  case whole =>
    intro s1 s2
    rw [exec_of_controlWrite t hg hc hx hq, hb, ha, Nat.sub_self,
      cellWrite_triggers (Nat.zero_le _) (by rw [length_cellBytes]), stage_cellBytes, toList_cell, State.trigger,
      decodeCell_cellBytes]
    dsimp only
    rw [cellSeq_cellBytes]
    have hw : (s2.take q c).path.waiting = [] := (keeps_take s2 q c).2.2.2.1.trans hq
    rw [finish_of_none hw]
  case part =>
    intro off cell s1 s2
    refine ⟨fun hoff => ?above, fun h1 h2 => ?triggers, fun h => ?quiet⟩
    case above =>
      apply Vector.ext
      intro i hi
      rw [Vector.getElem_ofFn]
      exact if_neg (by simp only; omega)
    case triggers =>
      have hw : (s2.trigger cell.toList).path.waiting = [] := (keeps_trigger s2 _).2.2.2.1.trans hq
      rw [exec_of_controlWrite t hg hc hx hq, cellWrite_triggers h1 (by rw [length_writeBytes hx]; exact h2),
        stage_writeBytes hx, finish_of_none hw]
      rfl
    case quiet =>
      have hw : s2.path.waiting = [] := hq
      rw [exec_of_controlWrite t hg hc hx hq, cellWrite_quiet (by rwa [length_writeBytes hx]), stage_writeBytes hx,
        finish_of_none hw]
      rfl

/-! ### Commands not taken (R158) -/

/-- A command other than RESET_ALL is taken, and nothing follows in its event. -/
theorem exec_of_command {i : Instr} {q : Word} {c : Command} (h : cellCommand i = some (q, c)) (hr : c ≠ .resetAll)
    (s : State) : exec i s = .next ((s.atTime (eventTime i)).take q c) := by
  rw [exec_cellCommand h, if_neg hr]

/-- With no command in flight a command of the cell is dispatched at its time count (R158). -/
theorem exec_of_idle {i : Instr} {q : Word} {c : Command} {t : Time} (h : cellCommand i = some (q, c))
    (ht : eventTime i = t) (hr : c ≠ .resetAll) {s : State} (hi : s.agent.inFlight = none) :
    exec i s = .next (dispatch q c (s.atTime t)) := by
  have hit : (s.atTime t).agent.inFlight = none := hi
  rw [exec_of_command h hr, ht, take_of_idle hit]

/-- Settles O14: BUSY by `take_of_busy`, a kind that names no command by `State.trigger`. -/
theorem commandsNotTakenAreReported : Obligations.CommandsNotTakenAreReported := by
  refine ⟨fun i q c f s hc hr hf => ?_, fun cell s hd => ⟨fun hi => ?_, fun f hf => ?_⟩⟩
  · rw [exec_of_command hc hr, take_of_busy (s := s.atTime (eventTime i)) hf q hr]
    rfl
  · rw [State.trigger, hd, hi]
  · rw [State.trigger, hd, hf]
    rfl

/-! ### Refused commands (2.8, R158, R159) -/

section
variable {s : State}

theorem finishCommand_refused (q : Word) (k : Nat) (b : Bool) {e : Ended} (h : e.2.outcome ≠ .done) :
    finishCommand q k b e = e.1.writeStatus q k e.2 := by
  unfold finishCommand
  dsimp only
  rw [if_neg (by simp [h])]

theorem finishCommand_plain (q : Word) (k : Nat) (e : Ended) : finishCommand q k false e = e.1.writeStatus q k e.2 := rfl

theorem finishCommand_done (q : Word) (k : Nat) {e : Ended} (h : e.2.outcome = .done) :
    finishCommand q k true e = (e.1.writeSnapshot (.command k)).writeStatus q k e.2 := by
  unfold finishCommand
  rw [h]
  rfl

theorem configureModule_refused {m o w h d : Word} {a : Addr} {l : Word} :
    (cmdConfigureModule m o w h d a l s).2.outcome ≠ .done → (cmdConfigureModule m o w h d a l s).1 = s := by
  unfold cmdConfigureModule
  split
  · exact fun _ => rfl
  · split
    · exact fun _ => rfl
    · split
      · exact fun _ => rfl
      · dsimp only
        split
        · exact fun _ => rfl
        · exact fun h => absurd rfl h

theorem enableModule_refused {m : Word} : (cmdEnableModule m s).2.outcome ≠ .done → (cmdEnableModule m s).1 = s := by
  unfold cmdEnableModule
  split
  · exact fun _ => rfl
  · split
    · exact fun _ => rfl
    · split
      · exact fun _ => rfl
      · exact fun h => absurd rfl h

theorem disableModule_refused {m : Word} : (cmdDisableModule m s).2.outcome ≠ .done → (cmdDisableModule m s).1 = s := by
  unfold cmdDisableModule
  split
  · exact fun _ => rfl
  · split
    · exact fun _ => rfl
    · split
      · exact fun _ => rfl
      · exact fun h => absurd rfl h

theorem resetModule_refused {m : Word} : (cmdResetModule m s).2.outcome ≠ .done → (cmdResetModule m s).1 = s := by
  unfold cmdResetModule
  split
  · exact fun _ => rfl
  · split
    · exact fun _ => rfl
    · exact fun h => absurd rfl h

theorem holdFrame_refused {m : Word} : (cmdHoldFrame m s).2.outcome ≠ .done → (cmdHoldFrame m s).1 = s := by
  unfold cmdHoldFrame
  split
  · exact fun _ => rfl
  · split
    · exact fun _ => rfl
    · split
      · exact fun _ => rfl
      · exact fun h => absurd rfl h

theorem releaseHold_refused {m k : Word} : (cmdReleaseHold m k s).2.outcome ≠ .done → (cmdReleaseHold m k s).1 = s := by
  unfold cmdReleaseHold
  split
  · exact fun _ => rfl
  · split
    · dsimp only
      split
      · exact fun _ => rfl
      · exact fun h => absurd rfl h
    · exact fun _ => rfl

theorem setField_refused {w lo hi : Word} : (cmdSetField w lo hi s).2.outcome ≠ .done → (cmdSetField w lo hi s).1 = s := by
  unfold cmdSetField
  split
  · exact fun _ => rfl
  · split
    · exact fun _ => rfl
    · split
      · exact fun _ => rfl
      · split
        · exact fun _ => rfl
        · exact fun h => absurd rfl h

theorem forceModule_refused {m : Word} : (cmdForceModule m s).2.outcome ≠ .done → (cmdForceModule m s).1 = s := by
  unfold cmdForceModule
  split
  · exact fun _ => rfl
  · split
    · exact fun h => absurd rfl h
    · exact fun _ => rfl

theorem configureView_refused {v w h d : Word} {a : Addr} {l : Word} :
    (cmdConfigureView v w h d a l s).2.outcome ≠ .done → (cmdConfigureView v w h d a l s).1 = s := by
  unfold cmdConfigureView
  split
  · exact fun _ => rfl
  · split
    · exact fun _ => rfl
    · split
      · exact fun _ => rfl
      · dsimp only
        split
        · exact fun _ => rfl
        · exact fun h => absurd rfl h

theorem enableView_refused {v : Word} : (cmdEnableView v s).2.outcome ≠ .done → (cmdEnableView v s).1 = s := by
  unfold cmdEnableView
  split
  · exact fun _ => rfl
  · split
    · exact fun _ => rfl
    · split
      · exact fun _ => rfl
      · exact fun h => absurd rfl h

theorem disableView_refused {v : Word} : (cmdDisableView v s).2.outcome ≠ .done → (cmdDisableView v s).1 = s := by
  unfold cmdDisableView
  split
  · exact fun _ => rfl
  · split
    · exact fun _ => rfl
    · split
      · exact fun _ => rfl
      · exact fun h => absurd rfl h

theorem freeze_done : (cmdFreeze s).2.outcome = .done := by
  unfold cmdFreeze
  split <;> rfl

theorem thaw_done : (cmdThaw s).2.outcome = .done := by
  unfold cmdThaw
  split <;> rfl

/-- An immediate command ends by `finishCommand` with what its block answers. -/
theorem dispatch_of_immediate {c : Command} {e : Ended} (h : c.immediate s = some e) (q : Word) :
    ∃ b, dispatch q c s = finishCommand q c.kind b e := by
  cases c <;> cases h <;> exact ⟨_, rfl⟩

/-- A refused immediate command leaves the state as it was. -/
theorem immediate_refused {c : Command} {e : Ended} (h : c.immediate s = some e) (hd : e.2.outcome ≠ .done) :
    e.1 = s := by
  cases c with
  | configureModule => cases h; exact configureModule_refused hd
  | enableModule => cases h; exact enableModule_refused hd
  | disableModule => cases h; exact disableModule_refused hd
  | resetModule => cases h; exact resetModule_refused hd
  | loadSlots => cases h
  | holdFrame => cases h; exact holdFrame_refused hd
  | releaseHold => cases h; exact releaseHold_refused hd
  | dumpSlots => cases h
  | loadCalibration => cases h
  | setField => cases h; exact setField_refused hd
  | zoomTo => cases h; exact absurd rfl hd
  | forceModule => cases h; exact forceModule_refused hd
  | releaseForce => cases h; exact absurd rfl hd
  | setHandoff => cases h; exact absurd rfl hd
  | freeze => cases h; exact absurd freeze_done hd
  | thaw => cases h; exact absurd thaw_done hd
  | configureView => cases h; exact configureView_refused hd
  | enableView => cases h; exact enableView_refused hd
  | disableView => cases h; exact disableView_refused hd
  | clearEvents => cases h; exact absurd rfl hd
  | setAttention => cases h; exact absurd rfl hd
  | resetAll => cases h

/-- Every command that names a module refuses a number at or above the module count. -/
theorem badModule {m : Word} (h : s.cfg.modules.toNat ≤ m.toNat) (a b c d l : Word) (p : Addr) :
    (cmdConfigureModule m a b c d p l s).2 = .plain .badArgument ∧ (cmdEnableModule m s).2 = .plain .badArgument
      ∧ (cmdDisableModule m s).2 = .plain .badArgument ∧ (cmdResetModule m s).2 = .plain .badArgument
      ∧ (cmdHoldFrame m s).2 = .plain .badArgument ∧ (cmdReleaseHold m a s).2 = .plain .badArgument
      ∧ (cmdForceModule m s).2 = .plain .badArgument := by
  have hn := moduleArg_none h
  rw [cmdConfigureModule, cmdEnableModule, cmdDisableModule, cmdResetModule, cmdHoldFrame, cmdReleaseHold,
    cmdForceModule, hn]
  exact ⟨rfl, rfl, rfl, rfl, rfl, rfl, rfl⟩

/-- Every command that names a view refuses a number above 1. -/
theorem badView {v : Word} (h : 1 < v.toNat) (a b c d : Word) (p : Addr) :
    (cmdConfigureView v a b c p d s).2 = .plain .badArgument ∧ (cmdEnableView v s).2 = .plain .badArgument
      ∧ (cmdDisableView v s).2 = .plain .badArgument := by
  rw [cmdConfigureView, cmdEnableView, cmdDisableView, viewArg_none h]
  exact ⟨rfl, rfl, rfl⟩

end

/-- Settles O15: each command's refusals are its branches that end with another outcome than DONE. -/
theorem refusedCommandsChangeNothing : Obligations.RefusedCommandsChangeNothing := by
  refine ⟨fun i q c e s hc hi he hd => ?_, fun m a b c d l q p s => ?_⟩
  · obtain ⟨k, hk⟩ := dispatch_of_immediate he q
    have hr : c ≠ .resetAll := by rintro rfl; cases he
    rw [exec_of_idle hc rfl hr hi, hk, finishCommand_refused _ _ _ hd,
      immediate_refused he hd]
  · exact ⟨configureModule_refused, enableModule_refused, disableModule_refused, resetModule_refused, holdFrame_refused,
      releaseHold_refused, setField_refused, forceModule_refused, configureView_refused, enableView_refused,
      disableView_refused, rfl, rfl, rfl, freeze_done, thaw_done, rfl, rfl, fun h => badModule h a b c d l p,
      fun h => badView h a b c d p⟩

/-! ### CLEAR_EVENTS and SET_ATTENTION (R165, R166) -/

theorem getLsbD_maskArg (mask : Word) (n : Fin 16) : (maskArg mask).getLsbD n.val = mask.getLsbD n.val := by
  simp [maskArg]

/-- Settles O17: the cleared kinds by `foldl_clearKind`, the line by `attentionOf_iff`. -/
theorem eventCommandsTake : Obligations.EventCommandsTake := by
  refine ⟨fun t q mask s hi => ?clear, fun t q mask s hi => ?set⟩
  case clear =>
    obtain ⟨ev, ha, hev⟩ := foldl_clearKind s.cfg (allKinds.filter fun n => mask.getLsbD n.val) s.agent
    refine ⟨((allKinds.filter fun n => mask.getLsbD n.val).foldl (fun a n => a.clearKind s.cfg n) s.agent).setLine,
      ?_, fun n => ?_, ?_, ?_⟩
    · rw [exec_of_idle (c := .clearEvents mask) rfl rfl nofun hi, dispatch,
        finishCommand_plain, cmdClearEvents]
      simp only [getLsbD_maskArg]
      rfl
    · rw [ha]
      show ev[n] = _
      rw [hev n]
      simp [mem_allKinds]
    · exact attentionOf_iff _ _
    · rw [ha]
      exact ⟨rfl, rfl, hi, rfl, rfl, rfl⟩
  case set =>
    intro k
    have hk : maskArg mask = k := by
      apply BitVec.eq_of_toNat_eq
      simp [maskArg, k]
    have hn : (maskArg mask).toNat = mask.toNat % 65536 := by simp [maskArg]
    rw [exec_of_idle (c := .setAttention mask) rfl rfl nofun hi, dispatch,
      finishCommand_plain, cmdSetAttention, hn, hk, Agent.setLine, attentionOf_eq_decide]
    rfl

/-! ### The two resets (R155, R162, R168) -/

/-- Every outstanding fetch of the table is withdrawn, entry by entry. -/
theorem allWithdrawn_eq (c : Composer) :
    c.allWithdrawn = c.withdrawn ++ (List.finRange 16).flatMap fun e =>
      (c.table[e].read.elim [] (·.outstanding)).map fun f => { entry := e, tag := c.table[e].tag, id := f.id } := by
  have hall : allEntries = List.finRange 16 := by decide
  unfold Composer.allWithdrawn
  rw [hall, List.flatMap_def]
  congr 3
  funext e
  cases c.table[e].read <;> rfl

/-- Settles O19: read off the definition of the port reset. -/
theorem portResetResets : Obligations.PortResetResets := fun _ _ => rfl

/-- Settles O18: the reset values are those of the definitions, the withdrawn fetches by `allWithdrawn_eq`. -/
theorem resetAllResets : Obligations.ResetAllResets := by
  unfold Obligations.ResetAllResets
  intro trackers store calibration ctl reg comp agent
  have hcomp : ∀ s : State, comp s = s.comp.clear := fun s => by
    simp only [comp, Composer.clear, allWithdrawn_eq]
    rfl
  refine ⟨fun t q s hq => ?_, fun t s => ?_⟩
  · intro queue
    have hw : ((s.atTime t).resetAll q).path.waiting = [] := hq
    have hexec : exec (.resetAll t q) s = .next ((s.atTime t).resetAll q).finish := rfl
    rw [hexec, finish_of_none hw, hcomp]
    rfl
  · rw [hcomp]
    rfl

end Sys2Proof.Machine
end

section
/-! The window check and the module commands (R3 to R5, R34 to R37): what passes and what a refusal names, and each command
in each of its cases. -/

namespace Sys2Proof.Machine

-- Declaration after declaration: elaborated side by side, those of the joined text need more memory than the check has.
set_option Elab.async false

/-! ### The first of the extents that are hit (R5, R175) -/

/-- In a list in strict order, what a search finds is the least element that passes. -/
theorem find?_of_least {α : Type} {R : α → α → Prop} {p : α → Bool} {x : α} {l : List α} (hs : l.Pairwise R) (hx : x ∈ l)
    (hp : p x = true) (hl : ∀ y ∈ l, p y = true → ¬R y x) : l.find? p = some x := by
  induction l with
  | nil => cases hx
  | cons a l ih =>
    obtain ⟨ha, hs⟩ := List.pairwise_cons.1 hs
    rcases List.mem_cons.1 hx with rfl | hx
    · rw [List.find?_cons_of_pos hp]
    · have hna : ¬p a = true := fun h => hl a List.mem_cons_self h (ha x hx)
      rw [List.find?_cons_of_neg hna]
      exact ih hs hx fun y hy => hl y (List.mem_cons_of_mem _ hy)

/-- The configured windows stand in the order of their indices. -/
theorem windows_sorted (s : State) : s.windows.Pairwise fun x y => x.1 < y.1 := by
  unfold State.windows
  refine List.pairwise_append.2 ⟨?_, ?_, fun x hx y hy => ?_⟩
  · refine List.Pairwise.filterMap _ (fun m m' hlt x hx y hy => ?_)
      (show allModules.Pairwise (· < ·) by decide)
    obtain ⟨e, -, rfl⟩ := Option.map_eq_some_iff.1 hx
    obtain ⟨e', -, rfl⟩ := Option.map_eq_some_iff.1 hy
    exact hlt
  · refine List.Pairwise.filterMap _ (fun v v' hlt x hx y hy => ?_) (show allViews.Pairwise (· < ·) by decide)
    obtain ⟨e, -, rfl⟩ := Option.map_eq_some_iff.1 hx
    obtain ⟨e', -, rfl⟩ := Option.map_eq_some_iff.1 hy
    exact Nat.add_lt_add_left hlt 4
  · obtain ⟨m, -, hm⟩ := List.mem_filterMap.1 hx
    obtain ⟨e, -, rfl⟩ := Option.map_eq_some_iff.1 hm
    obtain ⟨v, -, hv⟩ := List.mem_filterMap.1 hy
    obtain ⟨e', -, rfl⟩ := Option.map_eq_some_iff.1 hv
    dsimp only
    omega

/-- The extents of the loaded slots, each under its module and slot number. -/
def State.slotPlaces (s : State) (but : Option ModuleId) : List ((ModuleId × Nat) × Extent) :=
  allModules.flatMap fun m =>
    if but = some m then [] else s.store.mods[m].slots.mapIdx fun i x => ((m, i), x.extent)

theorem slotExtents_eq (s : State) (but : Option ModuleId) :
    s.slotExtents but = (s.slotPlaces but).map fun x => (8 * x.1.1.val + x.1.2, x.2) := by
  unfold State.slotExtents State.slotPlaces State.slotExtentsOf
  rw [List.map_flatMap, List.flatMap_def]
  congr 2
  funext m
  split
  · rfl
  · apply List.ext_getElem
    · simp
    · intro i h1 h2
      simp

theorem mem_slotPlaces {s : State} {but : Option ModuleId} {x : (ModuleId × Nat) × Extent} :
    x ∈ s.slotPlaces but
      ↔ but ≠ some x.1.1 ∧ ∃ y, s.store.mods[x.1.1].slots[x.1.2]? = some y ∧ y.extent = x.2 := by
  obtain ⟨⟨m, i⟩, e⟩ := x
  unfold State.slotPlaces
  rw [List.mem_flatMap]
  constructor
  · rintro ⟨k, -, hk⟩
    split at hk
    · cases hk
    · rename_i hb
      obtain ⟨j, hj, he⟩ := List.mem_mapIdx.1 hk
      cases he
      exact ⟨hb, _, List.getElem?_eq_getElem hj, rfl⟩
  · rintro ⟨hb, y, hy, rfl⟩
    obtain ⟨hi, he⟩ := List.getElem?_eq_some_iff.1 hy
    refine ⟨m, mem_allModules m, ?_⟩
    rw [if_neg hb]
    exact List.mem_mapIdx.2 ⟨i, hi, congrArg (fun z : Slot => ((m, i), z.extent)) he⟩

/-- They stand in the order of the slot table. -/
theorem slotPlaces_sorted (s : State) (but : Option ModuleId) :
    (s.slotPlaces but).Pairwise fun x y => x.1.1 < y.1.1 ∨ x.1.1 = y.1.1 ∧ x.1.2 < y.1.2 := by
  have hmod : ∀ (m : ModuleId) (x : (ModuleId × Nat) × Extent),
      x ∈ (if but = some m then [] else s.store.mods[m].slots.mapIdx fun i x => ((m, i), x.extent)) → x.1.1 = m := by
    intro m x hx
    split at hx
    · cases hx
    · obtain ⟨i, -, rfl⟩ := List.mem_mapIdx.1 hx
      rfl
  unfold State.slotPlaces
  rw [List.pairwise_flatMap]
  refine ⟨fun m _ => ?_, ?_⟩
  · split
    · exact List.Pairwise.nil
    · rw [List.pairwise_iff_getElem]
      intro i j hi hj hij
      rw [List.getElem_mapIdx, List.getElem_mapIdx]
      exact .inr ⟨rfl, hij⟩
  · refine (show allModules.Pairwise (· < ·) by decide).imp fun hlt x hx y hy => ?_
    rw [hmod _ x hx, hmod _ y hy]
    exact .inl hlt

/-- Whether two extents share a byte, as a statement about addresses. -/
theorem overlaps_eq_false (a b : Extent) : a.overlaps b = false ↔ ¬∃ n, a.contains n = true ∧ b.contains n = true := by
  rw [← overlaps_iff, Bool.not_eq_true]

theorem contains_iff (e : Extent) (a : Nat) : e.contains a = true ↔ e.start ≤ a ∧ a < e.start + e.size := by
  simp only [Extent.contains, Bool.and_eq_true, decide_eq_true_eq]

/-- An extent lies in the carve-out exactly when each of its bytes does. -/
theorem insideCarve_iff (g : Config) (e : Extent) :
    insideCarve g e.start e.size = true
      ↔ ∀ a, e.contains a = true → g.carveBase ≤ a ∧ a < g.carveBase + g.carveSize := by
  simp only [insideCarve, Bool.or_eq_true, Bool.and_eq_true, decide_eq_true_eq, contains_iff]
  constructor
  · rintro (h0 | h1) a ha <;> omega
  · intro h1
    by_cases h0 : e.size = 0
    · exact .inl h0
    · have hfirst := h1 e.start (by omega)
      have hlast := h1 (e.start + e.size - 1) (by omega)
      omega

section
variable {s : State} {index : Nat} {but : Option ModuleId} {e : Extent}

theorem windowRefusal_outside (h : insideCarve s.cfg e.start e.size = false) :
    s.windowRefusal index but e = some (.one .outOfCarve index) := by
  rw [State.windowRefusal, if_neg (by simp [h])]

theorem windowRefusal_inside (h : insideCarve s.cfg e.start e.size = true) :
    s.windowRefusal index but e
      = (s.overlapHit index but e).map fun h => { outcome := .overlap, d0 := index, d1 := h.1, d2 := h.2 } := by
  rw [State.windowRefusal, if_pos h]

/-- The least window hit is the one named. -/
theorem overlapHit_window {x : Nat × Extent} (hx : x ∈ s.windows) (hne : x.1 ≠ index) (ho : e.overlaps x.2 = true)
    (hl : ∀ y ∈ s.windows, y.1 ≠ index → e.overlaps y.2 = true → x.1 ≤ y.1) :
    s.overlapHit index but e = some (0, x.1) := by
  have hfind : s.windows.find? (fun x => x.1 != index && e.overlaps x.2) = some x := by
    refine find?_of_least (windows_sorted s) hx (by simp [hne, ho]) fun y hy hp => ?_
    rw [Bool.and_eq_true, bne_iff_ne] at hp
    exact Nat.not_lt.2 (hl y hy hp.1 hp.2)
  rw [State.overlapHit, hfind]

theorem overlapHit_no_window (hw : ∀ x ∈ s.windows, x.1 ≠ index → e.overlaps x.2 = false) :
    s.overlapHit index but e = if e.overlaps (controlExtent s.cfg) then some (1, 0)
      else ((s.slotExtents but).find? fun x => e.overlaps x.2).map fun x => (2, x.1) := by
  have hfind : s.windows.find? (fun x => x.1 != index && e.overlaps x.2) = none := by
    rw [List.find?_eq_none]
    intro x hx hp
    rw [Bool.and_eq_true, bne_iff_ne] at hp
    simp [hw x hx hp.1] at hp
  rw [State.overlapHit, hfind]

/-- The first slot hit, in the order of the slot table, is the one named. -/
theorem find_slotExtents {m : ModuleId} {i : Nat} {y : Slot} (hb : but ≠ some m)
    (hy : s.store.mods[m].slots[i]? = some y) (ho : e.overlaps y.extent = true)
    (hl : ∀ (n : ModuleId) (j : Nat) (z : Slot), but ≠ some n → s.store.mods[n].slots[j]? = some z →
      e.overlaps z.extent = true → m < n ∨ m = n ∧ i ≤ j) :
    (s.slotExtents but).find? (fun x => e.overlaps x.2) = some (8 * m.val + i, y.extent) := by
  have hfind : (s.slotPlaces but).find? (fun x => e.overlaps x.2) = some ((m, i), y.extent) := by
    refine find?_of_least (slotPlaces_sorted s but) (mem_slotPlaces.2 ⟨hb, y, hy, rfl⟩) ho fun x hx hp => ?_
    obtain ⟨hbx, z, hz, hze⟩ := mem_slotPlaces.1 hx
    rintro (hlt | ⟨heq, hlt⟩)
    · rcases hl x.1.1 x.1.2 z hbx hz (by rwa [hze]) with h | ⟨h, -⟩
      · exact absurd hlt (lt_asymm h)
      · exact absurd (h ▸ hlt) (lt_irrefl _)
    · rcases hl x.1.1 x.1.2 z hbx hz (by rwa [hze]) with h | ⟨-, h⟩
      · exact absurd (heq ▸ h) (lt_irrefl _)
      · exact absurd hlt (Nat.not_lt.2 h)
  rw [slotExtents_eq, List.find?_map]
  exact congrArg (Option.map _) hfind

end

/-- Settles O20: passing by `windowRefusal_eq_none`, the extent named by the order of windows and slots. -/
theorem windowCheckIsExact : Obligations.WindowCheckIsExact := by
  intro s index but e _ inside hits page
  have hin : insideCarve s.cfg e.start e.size = true ↔ inside := insideCarve_iff s.cfg e
  have hhit : ∀ x : Extent, e.overlaps x = true ↔ hits x := overlaps_iff e
  have hmiss : ∀ x : Extent, e.overlaps x = false ↔ ¬hits x := overlaps_eq_false e
  refine ⟨?passes, fun h => ?outside, fun h x hx hne ho hl => ?window, fun h hw => ⟨fun hp => ?page, ?slot⟩⟩
  case passes =>
    rw [windowRefusal_eq_none, hin]
    refine and_congr_right fun _ => ?_
    constructor
    · rintro ⟨h1, h2, h3⟩ a ha
      refine ⟨fun x hx hne => ?_, fun hc => ?_, fun m hm x hx => ?_⟩
      · by_contra hc
        exact (hmiss _).1 (h1 x hx hne) ⟨a, ha, by simpa using hc⟩
      · exact (hmiss _).1 h2 ⟨a, ha, (contains_iff ..).2 hc⟩
      · by_contra hc
        obtain ⟨i, hi⟩ := mem_slotExtents (e := x.extent) hm (List.mem_map_of_mem hx)
        exact (hmiss _).1 (h3 _ hi) ⟨a, ha, by simpa using hc⟩
    · intro hall
      refine ⟨fun x hx hne => (hmiss _).2 ?_, (hmiss _).2 ?_, fun x hx => (hmiss _).2 ?_⟩
      · rintro ⟨a, ha, hc⟩
        simp [(hall a ha).1 x hx hne] at hc
      · rintro ⟨a, ha, hc⟩
        exact (hall a ha).2.1 ((contains_iff ..).1 hc)
      · rw [slotExtents_eq] at hx
        obtain ⟨z, hz, rfl⟩ := List.mem_map.1 hx
        obtain ⟨hb, y, hy, hye⟩ := mem_slotPlaces.1 hz
        rintro ⟨a, ha, hc⟩
        have hfree := (hall a ha).2.2 z.1.1 hb y (List.mem_of_getElem? hy)
        rw [hye] at hfree
        simp [hfree] at hc
  case outside => exact windowRefusal_outside (by rwa [← Bool.not_eq_true, hin])
  case window =>
    rw [windowRefusal_inside (hin.2 h), overlapHit_window hx hne ((hhit _).2 ho) fun y hy hn hy' =>
      hl y hy hn ((hhit _).1 hy')]
    rfl
  case page =>
    rw [windowRefusal_inside (hin.2 h), overlapHit_no_window fun x hx hn => (hmiss _).2 (hw x hx hn),
      if_pos ((hhit (controlExtent s.cfg)).2 hp)]
    rfl
  case slot =>
    intro hp m i x hb hx ho hl
    rw [windowRefusal_inside (hin.2 h), overlapHit_no_window fun x hx hn => (hmiss _).2 (hw x hx hn),
      if_neg ((hhit (controlExtent s.cfg)).not.2 hp), find_slotExtents hb hx ((hhit _).2 ho) fun n j z hn hz hz' =>
        hl n j z hn hz ((hhit _).1 hz')]
    rfl

/-! ### CONFIGURE_MODULE (R34) -/

section
variable {o w h d l : Nat}

theorem moduleRange_owner (h1 : ¬o ≤ 255) : moduleRange o w h d l = some 8 := by
  rw [moduleRange, if_pos (by omega)]

theorem moduleRange_width (h1 : o ≤ 255) (h2 : ¬(64 ≤ w ∧ w ≤ 8192)) : moduleRange o w h d l = some 12 := by
  rw [moduleRange, if_neg (by omega), if_pos (by omega)]

theorem moduleRange_height (h1 : o ≤ 255) (h2 : 64 ≤ w ∧ w ≤ 8192) (h3 : ¬(64 ≤ h ∧ h ≤ 6144)) :
    moduleRange o w h d l = some 16 := by
  rw [moduleRange, if_neg (by omega), if_neg (by omega), if_pos (by omega)]

theorem moduleRange_stride (h1 : o ≤ 255) (h2 : 64 ≤ w ∧ w ≤ 8192) (h3 : 64 ≤ h ∧ h ≤ 6144)
    (h4 : ¬(d % 64 = 0 ∧ 4 * w ≤ d ∧ d ≤ 32768)) : moduleRange o w h d l = some 20 := by
  rw [moduleRange, if_neg (by omega), if_neg (by omega), if_neg (by omega), if_pos (by omega)]

theorem moduleRange_limit (h1 : o ≤ 255) (h2 : 64 ≤ w ∧ w ≤ 8192) (h3 : 64 ≤ h ∧ h ≤ 6144)
    (h4 : d % 64 = 0 ∧ 4 * w ≤ d ∧ d ≤ 32768) (h5 : ¬(1000 ≤ l ∧ l ≤ 1000000)) : moduleRange o w h d l = some 32 := by
  rw [moduleRange, if_neg (by omega), if_neg (by omega), if_neg (by omega), if_neg (by omega), if_pos (by omega)]

theorem moduleRange_ok (h1 : o ≤ 255) (h2 : 64 ≤ w ∧ w ≤ 8192) (h3 : 64 ≤ h ∧ h ≤ 6144)
    (h4 : d % 64 = 0 ∧ 4 * w ≤ d ∧ d ≤ 32768) (h5 : 1000 ≤ l ∧ l ≤ 1000000) : moduleRange o w h d l = none := by
  rw [moduleRange, if_neg (by omega), if_neg (by omega), if_neg (by omega), if_neg (by omega), if_neg (by omega)]

end

section
variable {s : State} {m : Word} {i : ModuleId}

/-- A refusal of CONFIGURE_MODULE: the reply of the first check that fails. -/
theorem configureModule_field {o w h d l : Word} {a : Addr} {n : Nat} (hm : moduleArg s.cfg m = some i)
    (hr : moduleRange o.toNat w.toNat h.toNat d.toNat l.toNat = some n) :
    cmdConfigureModule m o w h d a l s = (s, .one .badArgument n) := by
  rw [cmdConfigureModule, hm]
  dsimp only
  rw [hr]
  rfl

theorem configureModule_inUse {o w h d l : Word} {a : Addr} (hm : moduleArg s.cfg m = some i)
    (hr : moduleRange o.toNat w.toNat h.toNat d.toNat l.toNat = none) (he : s.trackers[i].record.enabled = true) :
    cmdConfigureModule m o w h d a l s = (s, .plain .inUse) := by
  rw [cmdConfigureModule, hm]
  dsimp only
  rw [hr]
  exact if_pos he

/-- The window CONFIGURE_MODULE asks for (R2, R34). -/
def captureExtent (h d : Word) (a : Addr) : Extent where
  start := pageDown a.toNat
  size := pixelArea h.toNat d.toNat + 4096

theorem configureModule_window {o w h d l : Word} {a : Addr} {r : Reply} (hm : moduleArg s.cfg m = some i)
    (hr : moduleRange o.toNat w.toNat h.toNat d.toNat l.toNat = none) (he : s.trackers[i].record.enabled = false)
    (hw : s.windowRefusal i.val (some i) (captureExtent h d a) = some r) :
    cmdConfigureModule m o w h d a l s = (s, r) := by
  unfold captureExtent at hw
  rw [cmdConfigureModule, hm]
  dsimp only
  rw [hr]
  dsimp only
  rw [if_neg (by rw [he]; decide), hw]

theorem configureModule_done {o w h d l : Word} {a : Addr} (hm : moduleArg s.cfg m = some i)
    (hr : moduleRange o.toNat w.toNat h.toNat d.toNat l.toNat = none) (he : s.trackers[i].record.enabled = false)
    (hw : s.windowRefusal i.val (some i) (captureExtent h d a) = none) :
    cmdConfigureModule m o w h d a l s =
      ({ s with
          trackers := s.trackers.set i
            (s.trackers[i].configure (o.setWidth 8) w.toNat h.toNat d.toNat l.toNat)
          path := { s.path with captureWindows := s.path.captureWindows.set i (.configured (captureExtent h d a)) }
          store := { s.store with mods := s.store.mods.set i .empty } },
        .plain .done) := by
  unfold captureExtent at hw
  rw [cmdConfigureModule, hm]
  dsimp only
  rw [hr]
  dsimp only
  rw [if_neg (by rw [he]; decide), hw]
  rfl

end

/-- Settles O21: the range checks in their order, then service, then the window check. -/
theorem configureModuleTakes : Obligations.ConfigureModuleTakes := by
  refine ⟨?takes, ?refused⟩
  case takes =>
    intro t q m o w h d a l i s hi hm ho hw1 hw2 hh1 hh2 hd1 hd2 hd3 hl1 hl2 he e hpass
    have hmt : moduleArg (s.atTime t).cfg m = some i := hm
    rw [exec_of_idle (t := t) (c := .configureModule m o w h d a l) rfl rfl nofun hi, dispatch, finishCommand_plain,
      configureModule_done hmt (moduleRange_ok ho ⟨hw1, hw2⟩ ⟨hh1, hh2⟩ ⟨hd1, hd2, hd3⟩ ⟨hl1, hl2⟩) he hpass,
      Tracker.configure]
    dsimp only [State.atTime]
    rw [he]
    rfl
  case refused =>
    intro t q m o w h d a l i s hi hm refused field ok1 ok2 ok3 ok4 ok5
    have hmt : moduleArg (s.atTime t).cfg m = some i := hm
    have key : ∀ r, cmdConfigureModule m o w h d a l (s.atTime t) = (s.atTime t, r) → refused r := fun r hr => by
      show exec _ s = _
      rw [exec_of_idle (t := t) (c := .configureModule m o w h d a l) rfl rfl nofun hi, dispatch, finishCommand_plain, hr]
    refine ⟨fun h1 => ?_, fun h1 h2 => ?_, fun h1 h2 h3 => ?_, fun h1 h2 h3 h4 => ?_, fun h1 h2 h3 h4 h5 => ?_,
      fun h1 h2 h3 h4 h5 => ⟨fun he => ?_, fun he r hr => ?_⟩⟩
    · exact key _ (configureModule_field hmt (moduleRange_owner h1))
    · exact key _ (configureModule_field hmt (moduleRange_width h1 h2))
    · exact key _ (configureModule_field hmt (moduleRange_height h1 h2 h3))
    · exact key _ (configureModule_field hmt (moduleRange_stride h1 h2 h3 h4))
    · exact key _ (configureModule_field hmt (moduleRange_limit h1 h2 h3 h4 h5))
    · exact key _ (configureModule_inUse hmt (moduleRange_ok h1 h2 h3 h4 h5) he)
    · exact key _ (configureModule_window hmt (moduleRange_ok h1 h2 h3 h4 h5) he hr)

/-! ### ENABLE_MODULE and DISABLE_MODULE (R35, R36) -/

/-- Settles O22: each branch of `cmdEnableModule`. -/
theorem enableModuleTakes : Obligations.EnableModuleTakes := by
  intro t q m i s hi hm
  have hmt : moduleArg (s.atTime t).cfg m = some i := hm
  rw [exec_of_idle (t := t) (c := .enableModule m) rfl rfl nofun hi, dispatch, finishCommand_plain, cmdEnableModule, hmt]
  dsimp only
  refine ⟨fun e hen hc hs hw => ?takes, fun hen => ?enabled, fun hen hn => ?refused⟩
  case takes =>
    have hok : ¬(!(s.atTime t).trackers[i].record.configured || (s.atTime t).store.mods[i].slots.isEmpty) = true := by
      rw [State.atTime_trackers, State.atTime_store, hc, Bool.not_true, Bool.false_or, List.isEmpty_iff]
      exact hs
    rw [if_neg (by rw [State.atTime_trackers, hen]; decide), if_neg hok]
    have hact : upd s.path.captureWindows i Window.activate = s.path.captureWindows.set i (.active e) := by
      rw [upd, hw]; rfl
    dsimp only [done, State.modTracker, State.modCtl, Controller.modModule, State.atTime]
    rw [hact]
    rfl
  case enabled =>
    rw [if_pos (show (s.atTime t).trackers[i].record.enabled = true from hen)]
    rfl
  case refused =>
    have hno : (!(s.atTime t).trackers[i].record.configured || (s.atTime t).store.mods[i].slots.isEmpty) = true := by
      rw [State.atTime_trackers, State.atTime_store, Bool.or_eq_true, Bool.not_eq_true', List.isEmpty_iff]
      exact hn
    rw [if_neg (by rw [State.atTime_trackers, hen]; decide), if_pos hno]
    rfl

theorem uses_iff (p : Phase) (m : ModuleId) : p.uses m = true ↔ p.serving = some m ∨ p.incoming = some m := by
  simp [Phase.uses]

theorem anyHeld_iff (ms : ModuleSlots) : ms.anyHeld = true ↔ ∃ x ∈ ms.slots, x.holders ≠ noHolders := by
  simp only [ModuleSlots.anyHeld, List.any_eq_true, Bool.not_eq_true', ← Bool.not_eq_true, HolderSet.isEmpty_iff]

/-- Settles O23: each branch of `cmdDisableModule`; the fill slot goes with the slot list. -/
theorem disableModuleTakes : Obligations.DisableModuleTakes := by
  intro t q m i s hi hm
  have hmt : moduleArg (s.atTime t).cfg m = some i := hm
  have hused : ((s.atTime t).ctl.phase.uses i || (s.atTime t).store.mods[i].anyHeld) = true
      ↔ s.ctl.phase.serving = some i ∨ s.ctl.phase.incoming = some i
        ∨ ∃ x ∈ s.store.mods[i].slots, x.holders ≠ noHolders := by
    rw [Bool.or_eq_true, uses_iff, anyHeld_iff, or_assoc]
    rfl
  rw [exec_of_idle (t := t) (c := .disableModule m) rfl rfl nofun hi, dispatch, finishCommand_plain, cmdDisableModule, hmt]
  dsimp only
  refine ⟨fun e hen hs hinc hh hw => ?takes, fun hen hu => ?used, fun hen => ?disabled⟩
  case takes =>
    have hfree : ¬((s.atTime t).ctl.phase.uses i || (s.atTime t).store.mods[i].anyHeld) = true := by
      rw [hused]
      rintro (h | h | ⟨x, hx, h⟩)
      · exact hs h
      · exact hinc h
      · exact h (hh x hx)
    rw [if_neg (by rw [State.atTime_trackers, hen]; decide), if_neg hfree, emptySlots_returnFill]
    have hdeact : upd s.path.captureWindows i Window.deactivate = s.path.captureWindows.set i (.configured e) := by
      rw [upd, hw]; rfl
    dsimp only [done, State.modTracker, State.emptySlots, State.modSlots, State.atTime]
    rw [hdeact]
    rfl
  case used =>
    rw [if_neg (by rw [State.atTime_trackers, hen]; decide), if_pos (hused.2 hu)]
    rfl
  case disabled =>
    rw [if_pos (by rw [State.atTime_trackers, hen]; rfl)]
    rfl

/-! ### RESET_MODULE (R37, R48) -/

/-- What a reset leaves of a module's slots: the fill slot returned, the unheld READY ones purged. -/
def ModuleSlots.afterReset (ms : ModuleSlots) (fill : Option Nat) : ModuleSlots := (fill.elim ms ms.giveBack).purge

theorem slots_giveBack (ms : ModuleSlots) (fill : Option Nat) (j : Nat) :
    (fill.elim ms ms.giveBack).slots[j]? = if fill = some j then ms.slots[j]?.map Slot.release else ms.slots[j]? := by
  cases fill with
  | none => rfl
  | some i =>
    show (ms.slots.modify i Slot.release)[j]? = _
    rw [getElem?_modify_of]
    simp only [Option.some.injEq]

theorem unheld_release (x : Slot) : x.release.unheld = false := rfl

theorem recyclable_giveBack (ms : ModuleSlots) (fill : Option Nat) (j : Nat) :
    (fill.elim ms ms.giveBack).recyclable j = (!decide (fill = some j) && ms.recyclable j) := by
  unfold ModuleSlots.recyclable
  rw [slots_giveBack]
  by_cases h : fill = some j
  · cases ms.slots[j]? <;> simp [h, unheld_release]
  · simp [h]

theorem slots_afterReset (ms : ModuleSlots) (fill : Option Nat) (j : Nat) :
    (ms.afterReset fill).slots[j]? = ms.slots[j]?.map fun x =>
      if fill = some j ∨ x.unheld = true then { x with state := .free, holders := noHolders } else x := by
  have hp : (ms.afterReset fill).slots[j]?
      = (fill.elim ms ms.giveBack).slots[j]?.map fun y : Slot => if y.unheld then y.release else y := List.getElem?_map ..
  rw [hp, slots_giveBack]
  by_cases h : fill = some j
  · rw [if_pos h, Option.map_map]
    congr 1
    funext x
    rw [Function.comp_apply, unheld_release, if_neg Bool.false_ne_true, if_pos (.inl h)]
    rfl
  · rw [if_neg h]
    congr 1
    funext x
    simp [h, Slot.release]

theorem ready_afterReset (ms : ModuleSlots) (fill : Option Nat) :
    (ms.afterReset fill).ready = ms.ready.filter fun j => decide (fill = some j) || !ms.recyclable j := by
  have hp : (ms.afterReset fill).ready
      = (fill.elim ms ms.giveBack).ready.filter fun j => !(fill.elim ms ms.giveBack).recyclable j := rfl
  have hr : (fill.elim ms ms.giveBack).ready = ms.ready := by cases fill <;> rfl
  rw [hp, hr]
  congr 1
  funext j
  rw [recyclable_giveBack, Bool.not_and, Bool.not_not]

/-- Settles O24: the slot list is `ModuleSlots.afterReset`, whose slots and ready list are read off slot by slot. -/
theorem resetModuleTakes : Obligations.ResetModuleTakes := by
  intro t q m i s hi hm
  have hmt : moduleArg (s.atTime t).cfg m = some i := hm
  rw [exec_of_idle (t := t) (c := .resetModule m) rfl rfl nofun hi, dispatch]
  refine ⟨fun hen => ⟨s.store.mods[i].afterReset s.trackers[i].capture.fillSlot, ?takes, ?tickets,
    slots_afterReset _ _, ready_afterReset _ _⟩, fun hen => ?disabled⟩
  case takes =>
    have hcmd : cmdResetModule m (s.atTime t) =
        ({ s.atTime t with
            trackers := s.trackers.set i { s.trackers[i] with capture := .idle, deadline := none }
            store := { s.store with
              mods := s.store.mods.set i (s.store.mods[i].afterReset s.trackers[i].capture.fillSlot) }
            ctl :=
              { s.ctl with
                mods := s.ctl.mods.set i
                  { s.ctl.mods[i] with
                    gain := 16384, relaxStart := 16384, relaxStep := 0, rx := 0, ry := 0, rect := none
                    resetMark := true } }
            reg := s.reg.cancel i }, .plain .done) := by
      rw [cmdResetModule, hmt]
      dsimp only
      rw [if_neg (by rw [State.atTime_trackers, hen]; decide)]
      simp only [done, State.modTracker, State.modSlots, State.returnFill, State.modCtl, Controller.modModule, upd,
        State.atTime, Vector.set_set]
      simp [ModuleSlots.afterReset, Tracker.restart, ModuleComp.resetModule]
    rw [finishCommand_done q 4 (by rw [hcmd]; rfl), hcmd]
  case tickets => cases s.trackers[i].capture.fillSlot <;> rfl
  case disabled =>
    have hcmd : cmdResetModule m (s.atTime t) = (s.atTime t, .plain .notEnabled) := by
      rw [cmdResetModule, hmt]
      exact if_pos (by rw [State.atTime_trackers, hen]; rfl)
    rw [hcmd]
    rfl

end Sys2Proof.Machine
end

section
/-! The commands that take time (R49 to R61): their triggers, what answers do to their progress, and their ends. -/

namespace Sys2Proof.Machine

-- Declaration after declaration: elaborated side by side, those of the joined text need more memory than the check has.
set_option Elab.async false

/-! ### Triggers (R49, R54, R60, R161) -/

section
variable {s : State} {q : Word}

/-- A command that ends at its trigger: COMMAND_DONE and the status record, with no command in flight as before. -/
theorem startTimed_ended (hi : s.agent.inFlight = none) (k : Nat) (r : Reply) :
    startTimed q k s (.ended r) = (s.raise (commandDoneRaise q k r)).writeStatus q k r := by
  show { (s.raise (commandDoneRaise q k r)).writeStatus q k r with
    agent := { ((s.raise (commandDoneRaise q k r)).writeStatus q k r).agent with inFlight := none } } = _
  have hf : ((s.raise (commandDoneRaise q k r)).writeStatus q k r).agent.inFlight = none := hi
  rw [← hf]

theorem insideCarve_of_fits {g : Config} {b n : Nat} (h1 : g.carveBase ≤ b) (h2 : b + n ≤ g.carveBase + g.carveSize) :
    insideCarve g b n = true := by
  simp [insideCarve, h1, h2]

theorem insideCarve_of_outside {g : Config} {b n : Nat} (hn : 0 < n)
    (h : b < g.carveBase ∨ g.carveBase + g.carveSize < b + n) : insideCarve g b n = false := by
  rw [← Bool.not_eq_true]
  simp only [insideCarve, Bool.or_eq_true, Bool.and_eq_true, decide_eq_true_eq]
  omega

variable {m n : Word} {b : Addr} {i : ModuleId}

theorem trigLoadSlots_count (hm : moduleArg s.cfg m = some i) (hn : ¬(1 ≤ n.toNat ∧ n.toNat ≤ 7)) :
    trigLoadSlots m b n s = .ended (.one .badArgument 16) := by
  rw [trigLoadSlots, hm]
  exact if_pos (by omega)

theorem trigLoadSlots_unconfigured (hm : moduleArg s.cfg m = some i) (hn : 1 ≤ n.toNat ∧ n.toNat ≤ 7)
    (hc : s.trackers[i].record.configured = false) : trigLoadSlots m b n s = .ended (.plain .notConfigured) := by
  rw [trigLoadSlots, hm]
  dsimp only
  rw [if_neg (by omega), hc]
  rfl

theorem trigLoadSlots_enabled (hm : moduleArg s.cfg m = some i) (hn : 1 ≤ n.toNat ∧ n.toNat ≤ 7)
    (hc : s.trackers[i].record.configured = true) (he : s.trackers[i].record.enabled = true) :
    trigLoadSlots m b n s = .ended (.plain .inUse) := by
  rw [trigLoadSlots, hm]
  dsimp only
  rw [if_neg (by omega), hc, he]
  rfl

/-- With module, count and service in order the buffer's place decides (R49). -/
theorem trigLoadSlots_buffer (hm : moduleArg s.cfg m = some i) (hn : 1 ≤ n.toNat ∧ n.toNat ≤ 7)
    (hc : s.trackers[i].record.configured = true) (he : s.trackers[i].record.enabled = false) :
    trigLoadSlots m b n s =
      if insideCarve s.cfg b.toNat (8 * (n.toNat + 1)) then .started (.loadSlots i b.toNat (n.toNat + 1))
      else .ended (.plain .outOfCarve) := by
  rw [trigLoadSlots, hm]
  dsimp only
  rw [if_neg (by omega), hc, he]
  rfl

theorem trigDumpSlots_outside (hm : moduleArg s.cfg m = some i)
    (hc : insideCarve s.cfg b.toNat (32 * s.store.mods[i].slots.length) = false) :
    trigDumpSlots m b s = .ended (.plain .outOfCarve) := by
  rw [trigDumpSlots, hm]
  dsimp only
  rw [hc]
  rfl

theorem trigDumpSlots_inside (hm : moduleArg s.cfg m = some i)
    (hc : insideCarve s.cfg b.toNat (32 * s.store.mods[i].slots.length) = true) :
    trigDumpSlots m b s =
      if s.store.mods[i].slots.isEmpty then .ended (.plain .done)
      else .started (.dumpSlots i b.toNat (s.store.mods[i].slots.map dumpEntry)) := by
  rw [trigDumpSlots, hm]
  dsimp only
  rw [hc]
  rfl

theorem trigLoadCalibration_eq (hm : moduleArg s.cfg m = some i) :
    trigLoadCalibration m b s =
      if insideCarve s.cfg b.toNat 96 then .started (.loadCalibration i b.toNat) else .ended (.plain .outOfCarve) := by
  rw [trigLoadCalibration, hm]

end

/-- Settles O25: each trigger's checks in their order, then `startTimed`. -/
theorem timedCommandsStart : Obligations.TimedCommandsStart := by
  refine ⟨?starts, ?ends⟩
  case starts =>
    intro t q m b i s hi hm hb start
    have hmt : moduleArg (s.atTime t).cfg m = some i := hm
    refine ⟨fun n h1 h7 hc he hfit => ?load, fun hne hfit => ?dump, fun hnil => ?none, fun hfit => ?calibration⟩
    case load =>
      rw [exec_of_idle (t := t) (c := .loadSlots m b n) rfl rfl nofun hi, dispatch,
        trigLoadSlots_buffer hmt ⟨h1, h7⟩ hc he, State.atTime_cfg, if_pos (insideCarve_of_fits hb hfit)]
      rfl
    case dump =>
      rw [exec_of_idle (t := t) (c := .dumpSlots m b) rfl rfl nofun hi, dispatch,
        trigDumpSlots_inside hmt (insideCarve_of_fits hb hfit), if_neg (by rw [List.isEmpty_iff]; exact hne)]
      simp only [startTimed, InFlightOp.progress, InFlightOp.accesses, List.length_map]
      rfl
    case none =>
      have hin : insideCarve (s.atTime t).cfg b.toNat (32 * (s.atTime t).store.mods[i].slots.length) = true := by
        rw [State.atTime_store, hnil]
        rfl
      rw [exec_of_idle (t := t) (c := .dumpSlots m b) rfl rfl nofun hi, dispatch, trigDumpSlots_inside hmt hin,
        if_pos (by rw [List.isEmpty_iff]; exact hnil), startTimed_ended (s := s.atTime t) hi]
      rfl
    case calibration =>
      rw [exec_of_idle (t := t) (c := .loadCalibration m b) rfl rfl nofun hi, dispatch, trigLoadCalibration_eq hmt,
        State.atTime_cfg, if_pos (insideCarve_of_fits hb hfit)]
      rfl
  case ends =>
    intro t q m n b s hi ended load dump calibration outside
    have hload : ∀ o d, trigLoadSlots m b n (s.atTime t) = .ended (.one o d) → load = ended 5 o d := fun o d hr => by
      show exec _ s = _
      rw [exec_of_idle (t := t) (c := .loadSlots m b n) rfl rfl nofun hi, dispatch, hr,
        startTimed_ended (s := s.atTime t) hi]
      rfl
    have hdump : ∀ o d, trigDumpSlots m b (s.atTime t) = .ended (.one o d) → dump = ended 8 o d := fun o d hr => by
      show exec _ s = _
      rw [exec_of_idle (t := t) (c := .dumpSlots m b) rfl rfl nofun hi, dispatch, hr,
        startTimed_ended (s := s.atTime t) hi]
      rfl
    have hcal : ∀ o d, trigLoadCalibration m b (s.atTime t) = .ended (.one o d) → calibration = ended 9 o d :=
      fun o d hr => by
        show exec _ s = _
        rw [exec_of_idle (t := t) (c := .loadCalibration m b) rfl rfl nofun hi, dispatch, hr,
          startTimed_ended (s := s.atTime t) hi]
        rfl
    refine ⟨fun hm => ?_, fun i hm => ?_⟩
    · have hmt : moduleArg (s.atTime t).cfg m = none := moduleArg_none hm
      exact ⟨hload _ _ (by rw [trigLoadSlots, hmt]), hdump _ _ (by rw [trigDumpSlots, hmt]; rfl),
        hcal _ _ (by rw [trigLoadCalibration, hmt]; rfl)⟩
    · have hmt : moduleArg (s.atTime t).cfg m = some i := hm
      intro ok
      refine ⟨fun hn => hload _ _ (trigLoadSlots_count hmt hn), fun hn hc => hload _ _ (trigLoadSlots_unconfigured hmt hn hc),
        fun hn hc he => hload _ _ (trigLoadSlots_enabled hmt hn hc he), fun hn hc he ho => hload _ _ ?_,
        fun hne ho => hdump _ _ ?_, fun ho => hcal _ _ ?_⟩
      · rw [trigLoadSlots_buffer hmt hn hc he]
        exact if_neg (by rw [State.atTime_cfg, insideCarve_of_outside (by omega) ho]; decide)
      · have hpos : 0 < 32 * s.store.mods[i].slots.length := by
          have := List.length_pos_of_ne_nil hne
          omega
        exact trigDumpSlots_outside hmt (insideCarve_of_outside hpos ho)
      · rw [trigLoadCalibration_eq hmt]
        exact if_neg (by rw [State.atTime_cfg, insideCarve_of_outside (by omega) ho]; decide)

/-! ### Answers received (R50, R55, R61) -/

/-- What access j has brought after an event's answers: the answer it brings, or the one it had. -/
def Progress.got {n : Nat} (p : Progress) (a : AccessAnswers n) (buf : List Byte) (j : Nat) : Option (List Byte) :=
  if p.fresh a j then some ((buf.drop (8 * j)).take 8) else p.answers[j]?.join

section
variable {n : Nat} {p : Progress} {a : AccessAnswers n} {buf : List Byte}

theorem answers_receive : (p.receive a buf).answers = (List.range p.answers.length).map (p.got a buf) := by
  apply List.ext_getElem?
  intro j
  rw [getElem?_receive, List.getElem?_map]
  by_cases hj : j < p.answers.length
  · rw [List.getElem?_eq_getElem hj, List.getElem?_range hj]
    simp [Progress.got, List.getElem?_eq_getElem hj]
  · rw [List.getElem?_eq_none (by omega), List.getElem?_eq_none (by rw [List.length_range]; omega)]
    rfl

theorem receive_eq :
    p.receive a buf = { issued := p.issued, answers := (List.range p.answers.length).map (p.got a buf) } := by
  rw [← answers_receive]
  rfl

theorem complete_receive : (p.receive a buf).complete = true ↔ ∀ j, j < p.answers.length → p.got a buf j ≠ none := by
  rw [Progress.complete, answers_receive, List.all_map, List.all_eq_true]
  simp only [List.mem_range, Function.comp_apply, Option.isSome_iff_ne_none]

theorem bytes_receive :
    (p.receive a buf).bytes = ((List.range p.answers.length).map fun j => (p.got a buf j).getD []).flatten := by
  rw [Progress.bytes, answers_receive, List.map_map]
  rfl

end

section
variable {n : Nat} {s : State} {f : InFlight} {a : AccessAnswers n} {buf : List Byte} {snapshot : Bool}
  {failed : Nat → Ended} {read : List Byte → Ended}

/-- Reads answered without an error, some still missing: only the progress changes (R161). -/
theorem takeReads_partial (hn : f.progress.firstFailed a = none)
    (h : ∃ j, j < f.progress.answers.length ∧ f.progress.got a buf j = none) :
    s.takeReads f snapshot a buf failed read = s.keepProgress f (f.progress.receive a buf) := by
  have hc : ¬(f.progress.receive a buf).complete = true := by
    rw [complete_receive]
    obtain ⟨j, hj, hg⟩ := h
    exact fun hall => hall j hj hg
  rw [State.takeReads, hn]
  exact if_neg hc

/-- Reads answered without an error, none missing: the end with the bytes read. -/
theorem takeReads_complete (hn : f.progress.firstFailed a = none)
    (h : ∀ j, j < f.progress.answers.length → f.progress.got a buf j ≠ none) :
    s.takeReads f snapshot a buf failed read
      = finishTimed f.seq f.op.kind snapshot (read (f.progress.receive a buf).bytes) := by
  rw [State.takeReads, hn]
  exact if_pos (complete_receive.2 h)

theorem takeReads_failed {j : Nat} (h : f.progress.firstFailed a = some j) :
    s.takeReads f snapshot a buf failed read = finishTimed f.seq f.op.kind snapshot (failed j) := by
  rw [State.takeReads, h]

end

section
variable {s : State} {f : InFlight}

/-- Answers for the LOAD_SLOTS in flight are taken as the answers of its reads (R50). -/
theorem exec_loadSlotsEnd {m : ModuleId} {b k : Nat} (hf : s.agent.inFlight = some f) (ho : f.op = .loadSlots m b k)
    (t : Time) (a : AccessAnswers 8) (buf : Vector Byte 64) :
    exec (.loadSlotsEnd t f.serial a buf) s = .next ((s.atTime t).takeReads f false a buf.toList
      (refuseWith (s.atTime t) .fetchFailed) fun b => endLoadSlots m k b (s.atTime t)) := by
  show Host.Outcome.next ((s.atTime t).loadSlotsEnd f.serial a buf.toList) = _
  have hft : (s.atTime t).agent.inFlight = some f := hf
  rw [State.loadSlotsEnd, hft]
  dsimp only
  rw [ho]
  dsimp only
  rw [if_pos rfl]

theorem exec_loadCalibrationEnd {m : ModuleId} {b : Nat} (hf : s.agent.inFlight = some f)
    (ho : f.op = .loadCalibration m b) (t : Time) (a : AccessAnswers 12) (buf : Vector Byte 96) :
    exec (.loadCalibrationEnd t f.serial a buf) s = .next ((s.atTime t).takeReads f true a buf.toList
      (fun _ => refuseWith (s.atTime t) .fetchFailed 0) fun b => endLoadCalibration m b (s.atTime t)) := by
  show Host.Outcome.next ((s.atTime t).loadCalibrationEnd f.serial a buf.toList) = _
  have hft : (s.atTime t).agent.inFlight = some f := hf
  rw [State.loadCalibrationEnd, hft]
  dsimp only
  rw [ho]
  dsimp only
  rw [if_pos rfl]

theorem exec_dumpSlotsEnd {m : ModuleId} {b : Nat} {es : List (List Byte)} (hf : s.agent.inFlight = some f)
    (ho : f.op = .dumpSlots m b es) (t : Time) (a : AccessAnswers 8) (i : Nat) :
    exec (.dumpSlotsEnd t f.serial a i) s = .next ((s.atTime t).takeWrites f b es i a) := by
  show Host.Outcome.next ((s.atTime t).dumpSlotsEnd f.serial a i) = _
  have hft : (s.atTime t).agent.inFlight = some f := hf
  rw [State.dumpSlotsEnd, hft]
  dsimp only
  rw [ho]
  dsimp only
  rw [if_pos rfl]

end

/-- The end of a time-taking command without a snapshot: COMMAND_DONE, the status record, no command in flight. -/
theorem finishTimed_plain (q : Word) (k : Nat) (e : Ended) :
    finishTimed q k false e =
      let s := (e.1.raise (commandDoneRaise q k e.2)).writeStatus q k e.2
      { s with agent := { s.agent with inFlight := none } } := rfl

/-- The end of a time-taking command that is not DONE. -/
theorem finishTimed_refused (q : Word) (k : Nat) {e : Ended} (h : e.2.outcome ≠ .done) :
    finishTimed q k true e = finishTimed q k false e := by
  have h' : (e.1.raise (commandDoneRaise q k e.2), e.2).2.outcome ≠ .done := h
  unfold finishTimed
  rw [finishCommand_refused q k true h', finishCommand_refused q k false h']

/-- The end of a time-taking command with DONE and its snapshot. -/
theorem finishTimed_done (q : Word) (k : Nat) {e : Ended} (h : e.2.outcome = .done) :
    finishTimed q k true e =
      let s := ((e.1.raise (commandDoneRaise q k e.2)).writeSnapshot (.command k)).writeStatus q k e.2
      { s with agent := { s.agent with inFlight := none } } := by
  have h' : (e.1.raise (commandDoneRaise q k e.2), e.2).2.outcome = .done := h
  unfold finishTimed
  rw [finishCommand_done q k h']

/-! ### The end of LOAD_SLOTS (R50) -/

section
variable {s : State} {m : ModuleId} {before : List Extent} {e : Extent}

theorem slotRefusal_outside (h : ¬insideCarve s.cfg e.start e.size = true) :
    s.slotRefusal m before e = some .outOfCarve := by
  rw [State.slotRefusal, if_pos (by simpa using h)]

theorem slotRefusal_overlap (h : insideCarve s.cfg e.start e.size = true) (hn : s.slotRefusal m before e ≠ none) :
    s.slotRefusal m before e = some .overlap := by
  unfold State.slotRefusal at hn ⊢
  rw [if_neg (by simp [h])] at hn ⊢
  split at hn
  · rename_i ho
    rw [if_pos ho]
  · exact absurd rfl hn

/-- The first entry that fails, its predecessors passing, is the one named (R50). -/
theorem firstRefusal_some {es : List Extent} {j : Nat} {o : OutcomeCode} (he : es[j]? = some e)
    (hl : ∀ i x, i < j → es[i]? = some x → s.slotRefusal m (before ++ es.take i) x = none)
    (ho : s.slotRefusal m (before ++ es.take j) e = some o) : s.firstRefusal m before es = some (o, before.length + j) := by
  induction es generalizing before j with
  | nil => cases he
  | cons x es ih =>
    unfold State.firstRefusal
    cases j with
    | zero =>
      cases he
      rw [List.take_zero, List.append_nil] at ho
      rw [ho]
      rfl
    | succ j =>
      have hx := hl 0 x (Nat.succ_pos j) rfl
      rw [List.take_zero, List.append_nil] at hx
      rw [hx]
      dsimp only
      rw [ih (before := before ++ [x]) he (fun i y hi hy => ?_) (by simpa using ho)]
      · rw [List.length_append, List.length_singleton, Nat.add_assoc, Nat.add_comm 1 j]
      · simpa using hl (i + 1) y (by omega) hy

/-- A buffer passes where each entry passes against those before it. -/
theorem firstRefusal_range_none {entry : Nat → Extent} {k : Nat}
    (h : ∀ j, j < k → s.slotRefusal m ((List.range j).map entry) (entry j) = none) :
    s.firstRefusal m [] ((List.range k).map entry) = none := by
  rw [firstRefusal_eq_none, List.pairwise_map]
  refine ⟨fun x hx => ?_, List.pairwise_lt_range.imp_of_mem fun {i j} _ hj hij => ?_⟩
  · obtain ⟨j, hj, rfl⟩ := List.mem_map.1 hx
    obtain ⟨h1, h2, h3, h4, -⟩ := (slotRefusal_eq_none ..).1 (h j (List.mem_range.1 hj))
    exact (slotRefusal_eq_none ..).2 ⟨h1, h2, h3, h4, nofun⟩
  · obtain ⟨-, -, -, -, hbefore⟩ := (slotRefusal_eq_none ..).1 (h j (List.mem_range.1 hj))
    exact hbefore _ (List.mem_map_of_mem (List.mem_range.2 hij))

/-- Its first entry that fails is the one named. -/
theorem firstRefusal_range_some {entry : Nat → Extent} {k j : Nat} {o : OutcomeCode} (hj : j < k)
    (hl : ∀ i, i < j → s.slotRefusal m ((List.range i).map entry) (entry i) = none)
    (ho : s.slotRefusal m ((List.range j).map entry) (entry j) = some o) :
    s.firstRefusal m [] ((List.range k).map entry) = some (o, j) := by
  have hget : ∀ i, i < k → ((List.range k).map entry)[i]? = some (entry i) := fun i hi => by
    rw [List.getElem?_map, List.getElem?_range hi]
    rfl
  have htake : ∀ i, i < k → ([] : List Extent) ++ ((List.range k).map entry).take i = (List.range i).map entry :=
    fun i hi => by rw [List.nil_append, ← List.map_take, List.take_range, Nat.min_eq_left (Nat.le_of_lt hi)]
  have hfirst := firstRefusal_some (s := s) (m := m) (before := []) (hget j hj) (fun i x hi hx => ?_)
    (by rw [htake j hj]; exact ho)
  · rwa [List.length_nil, Nat.zero_add] at hfirst
  · rw [hget i (hi.trans hj)] at hx
    cases hx
    rw [htake i (hi.trans hj)]
    exact hl i hi

/-- The place of an entry against the ranges, as a statement about bytes (R50). -/
theorem slotRefusal_iff_bytes {entry : Nat → Extent} {j : Nat} :
    s.slotRefusal m ((List.range j).map entry) (entry j) = none ↔ insideCarve s.cfg (entry j).start (entry j).size = true
      ∧ ¬((∃ x ∈ s.windows, ∃ a, (entry j).contains a = true ∧ x.2.contains a = true)
        ∨ (∃ a, (entry j).contains a = true ∧ (controlExtent s.cfg).contains a = true)
        ∨ (∃ l : ModuleId, l ≠ m ∧ ∃ x ∈ s.store.mods[l].slots,
            ∃ a, (entry j).contains a = true ∧ x.extent.contains a = true)
        ∨ ∃ i, i < j ∧ ∃ a, (entry j).contains a = true ∧ (entry i).contains a = true) := by
  rw [slotRefusal_eq_none]
  simp only [overlaps_eq_false]
  refine and_congr_right fun _ => ?_
  constructor
  · rintro ⟨h1, h2, h3, h4⟩ (⟨x, hx, hc⟩ | hc | ⟨l, hl, x, hx, hc⟩ | ⟨i, hi, hc⟩)
    · exact h1 x hx hc
    · exact h2 hc
    · obtain ⟨r, hr⟩ := mem_slotExtents (s := s) (but := some m) (m := l) (e := x.extent)
        (fun h => hl (Option.some.inj h).symm) (List.mem_map_of_mem hx)
      exact h3 _ hr hc
    · exact h4 _ (List.mem_map_of_mem (List.mem_range.2 hi)) hc
  · intro hno
    refine ⟨fun x hx hc => hno (.inl ⟨x, hx, hc⟩), fun hc => hno (.inr (.inl hc)), fun x hx hc => ?_, fun x hx hc => ?_⟩
    · rw [slotExtents_eq] at hx
      obtain ⟨z, hz, rfl⟩ := List.mem_map.1 hx
      obtain ⟨hb, y, hy, hye⟩ := mem_slotPlaces.1 hz
      exact hno (.inr (.inr (.inl ⟨z.1.1, fun h => hb (by rw [h]), y, List.mem_of_getElem? hy, hye ▸ hc⟩)))
    · obtain ⟨i, hi, rfl⟩ := List.mem_map.1 hx
      exact hno (.inr (.inr (.inr ⟨i, List.mem_range.1 hi, hc⟩)))

/-- The size of each slot of a module (R39, R50). -/
def State.slotSize (s : State) (m : ModuleId) : Nat :=
  pixelArea s.trackers[m].record.height s.trackers[m].record.stride

theorem endLoadSlots_refused {n j : Nat} {buf : List Byte} {o : OutcomeCode}
    (h : s.firstRefusal m [] (bufferExtents buf n (s.slotSize m)) = some (o, j)) :
    endLoadSlots m n buf s = (s, .one o j) := by
  unfold State.slotSize at h
  unfold endLoadSlots
  dsimp only
  rw [h]
  rfl

theorem endLoadSlots_installs {n : Nat} {buf : List Byte}
    (h : s.firstRefusal m [] (bufferExtents buf n (s.slotSize m)) = none) :
    endLoadSlots m n buf s =
      (s.modSlots m fun _ =>
        { slots := (List.range n).map fun j => Slot.loaded (slotBase buf j) (s.slotSize m)
          ready := [], tickets := Vector.replicate 2 none }, .one .done n) := by
  unfold State.slotSize at h ⊢
  unfold endLoadSlots
  dsimp only
  rw [h]
  dsimp only
  rw [bufferExtents, List.map_map]
  rfl

end

/-- Settles O26: the answers by `receive_eq`, the checks by `firstRefusal_range_none` and `firstRefusal_range_some`. -/
theorem loadSlotsEndInstalls : Obligations.LoadSlotsEndInstalls := by
  intro t n q m b k p a buf s hf hk fresh herr got bytes size entry share out clash ends
  subst hk
  have hnone : p.firstFailed a = none := firstFailed_none herr
  have hbytes : (p.receive a buf.toList).bytes = bytes := bytes_receive
  have hexec := exec_loadSlotsEnd hf rfl t a buf
  refine ⟨fun hpart => ?missing, fun hall => ?complete⟩
  case missing =>
    rw [takeReads_partial (f := ⟨n, q, .loadSlots m b p.answers.length, p⟩) hnone hpart, receive_eq] at hexec
    exact hexec
  case complete =>
    rw [takeReads_complete (f := ⟨n, q, .loadSlots m b p.answers.length, p⟩) hnone hall, hbytes,
      finishTimed_plain] at hexec
    have hin : ∀ j, insideCarve s.cfg (entry j).start (entry j).size = true ↔ ¬out j := by
      intro j
      rw [insideCarve_iff]
      exact ⟨fun h ⟨a, ha, hn⟩ => hn (h a ha), fun h a ha => by_contra fun hn => h ⟨a, ha, hn⟩⟩
    have hpass : ∀ j, ¬out j ∧ ¬clash j → (s.atTime t).slotRefusal m ((List.range j).map entry) (entry j) = none :=
      fun j h => slotRefusal_iff_bytes.2 ⟨(hin j).2 h.1, h.2⟩
    have hend : ∀ o j, (s.atTime t).firstRefusal m [] ((List.range p.answers.length).map entry) = some (o, j) →
        ends (s.atTime t) o j := by
      intro o j hr
      rw [endLoadSlots_refused (s := s.atTime t) hr] at hexec
      exact hexec
    refine ⟨fun hok => ?installs, fun j hj hl => ⟨fun ho => hend _ _ ?out, fun ho hc => hend _ _ ?clash⟩⟩
    case installs =>
      intro ms
      rw [endLoadSlots_installs (s := s.atTime t) (firstRefusal_range_none fun j hj => hpass j (hok j hj))] at hexec
      exact hexec
    case out =>
      exact firstRefusal_range_some hj (fun i hi => hpass i (hl i hi)) (slotRefusal_outside ((hin j).not.2 (not_not.2 ho)))
    case clash =>
      exact firstRefusal_range_some hj (fun i hi => hpass i (hl i hi))
        (slotRefusal_overlap ((hin j).2 ho) fun h => (slotRefusal_iff_bytes.1 h).2 hc)

end Sys2Proof.Machine
end

section
/-! The ends of DUMP_SLOTS and LOAD_CALIBRATION (R55, R61), the checks of a calibration buffer, and the end by an erring
answer (R50, R55, R61). -/

namespace Sys2Proof.Machine

-- Declaration after declaration: elaborated side by side, those of the joined text need more memory than the check has.
set_option Elab.async false

/-! ### DUMP_SLOTS (R55) -/

/-- What write j has brought after an event's answers: that it is answered, which brings no bytes. -/
theorem got_nil {n : Nat} (p : Progress) (a : AccessAnswers n) (j : Nat) :
    p.got a [] j = if p.fresh a j then some [] else p.answers[j]?.join := by
  unfold Progress.got
  rw [List.drop_nil, List.take_nil]

section
variable {s : State} {f : InFlight} {b i : Nat} {es : List (List Byte)} {a : AccessAnswers 8}

theorem takeWrites_partial (hn : (f.progress.issueTo i).firstFailed a = none)
    (h : ∃ j, j < f.progress.answers.length ∧ (f.progress.issueTo i).got a [] j = none) :
    s.takeWrites f b es i a = s.keepProgress f ((f.progress.issueTo i).receive a []) := by
  have hc : ¬((f.progress.issueTo i).receive a []).complete = true := by
    rw [complete_receive]
    obtain ⟨j, hj, hg⟩ := h
    exact fun hall => hall j hj hg
  rw [State.takeWrites]
  dsimp only
  rw [hn]
  exact if_neg hc

theorem takeWrites_complete (hn : (f.progress.issueTo i).firstFailed a = none)
    (h : ∀ j, j < f.progress.answers.length → (f.progress.issueTo i).got a [] j ≠ none) :
    s.takeWrites f b es i a = finishTimed f.seq f.op.kind false
      (s.addDump (dumpWritesOf b es (f.progress.issueTo i).issued ((f.progress.issueTo i).mark a)),
        .one .done es.length) := by
  rw [State.takeWrites]
  dsimp only
  rw [hn]
  exact if_pos (complete_receive.2 h)

theorem takeWrites_failed {j : Nat} (h : (f.progress.issueTo i).firstFailed a = some j) :
    s.takeWrites f b es i a = finishTimed f.seq f.op.kind false
      (s.addDump (dumpWritesOf b es (f.progress.issueTo i).issued ((f.progress.issueTo i).mark a)),
        .one .fetchFailed j) := by
  rw [State.takeWrites]
  dsimp only
  rw [h]

end

/-- A write with an answer and no fresh error is marked as answered without an error. -/
theorem mark_of_got {n j : Nat} {p : Progress} {a : AccessAnswers n}
    (herr : ∀ j, p.fresh a j = true → a.errs.getLsbD j = false) (h : p.got a [] j ≠ none) :
    p.mark a j = some false := by
  rw [got_nil] at h
  unfold Progress.mark
  split
  · rename_i hf
    rw [herr j hf]
  · rename_i hf
    rw [if_neg hf] at h
    obtain ⟨x, hx⟩ := Option.ne_none_iff_exists'.1 h
    rw [Option.join_eq_some_iff.1 hx]
    rfl

/-- Settles O27: the writes by `getElem?_dumpWritesOf`, each marked by `mark_of_got`. -/
theorem dumpSlotsEndReports : Obligations.DumpSlotsEndReports := by
  intro t n q m b es p a i s hf hlaw k issued fresh herr got
  obtain ⟨hlen, -, hans, -⟩ := hlaw _ hf
  have hk : p.answers.length = k := hlen
  have hissued : (p.issueTo i).issued = issued := by
    show max p.issued (min i p.answers.length) = _
    rw [hk]
  have hfresh : ∀ j, (p.issueTo i).fresh a j = fresh j := fun j => by
    unfold Progress.fresh
    rw [hissued]
    rfl
  have hgot : ∀ j, (p.issueTo i).got a [] j = got j := fun j => by
    rw [got_nil, hfresh]
    rfl
  have hnoerr : ∀ j, (p.issueTo i).fresh a j = true → a.errs.getLsbD j = false := fun j h => herr j (hfresh j ▸ h)
  have hexec := exec_dumpSlotsEnd hf rfl t a i
  refine ⟨fun hpart => ?missing, fun hall => ?complete⟩
  case missing =>
    have hpart' : ∃ j, j < p.answers.length ∧ (p.issueTo i).got a [] j = none := by
      obtain ⟨j, hj, hg⟩ := hpart
      exact ⟨j, hk ▸ hj, (hgot j).trans hg⟩
    have hrec : (p.issueTo i).receive a [] = { issued := issued, answers := (List.range k).map got } := by
      rw [receive_eq, hissued, answers_issueTo, hk, funext hgot]
    rw [takeWrites_partial (f := ⟨n, q, .dumpSlots m b es, p⟩) (firstFailed_none hnoerr) hpart', hrec] at hexec
    exact hexec
  case complete =>
    have hall' : ∀ j, j < p.answers.length → (p.issueTo i).got a [] j ≠ none := fun j hj =>
      hgot j ▸ hall j (hk ▸ hj)
    have hreach : ∀ j, j < k → j < issued := by
      intro j hj
      have hg := hall j hj
      simp only [got] at hg
      split at hg
      · rename_i h
        simp only [fresh, Bool.and_eq_true, decide_eq_true_eq] at h
        exact h.1.2
      · obtain ⟨x, hx⟩ := Option.ne_none_iff_exists'.1 hg
        exact Nat.lt_of_lt_of_le (hans j x (Option.join_eq_some_iff.1 hx)).1 (Nat.le_max_left _ _)
    refine ⟨dumpWritesOf b es issued ((p.issueTo i).mark a), fun j => ?_, ?_⟩
    · rw [getElem?_dumpWritesOf]
      by_cases hj : j < k
      · rw [if_pos (hreach j hj), mark_of_got hnoerr (hall' j (hk ▸ hj))]
      · rw [List.getElem?_eq_none (Nat.not_lt.1 hj)]
        split <;> rfl
    · rw [takeWrites_complete (f := ⟨n, q, .dumpSlots m b es, p⟩) (firstFailed_none hnoerr) hall', hissued,
        finishTimed_plain] at hexec
      exact hexec

/-! ### LOAD_CALIBRATION (R61) -/

theorem checkCalibration_not_done {buf : List Byte} {r : Reply} (h : checkCalibration buf = .error r) :
    r.outcome ≠ .done := by
  unfold checkCalibration at h
  dsimp only at h
  split at h
  · cases h; nofun
  · split at h
    · cases h; nofun
    · split at h
      · cases h; nofun
      · split at h
        · cases h; nofun
        · split at h
          · cases h; nofun
          · split at h
            · cases h; nofun
            · cases h

/-- Settles O28: the answers by `receive_eq`, the end by the outcome of the checks. -/
theorem loadCalibrationEndMakesPending : Obligations.LoadCalibrationEndMakesPending := by
  intro t n q m b p a buf s hf hlen fresh herr got bytes
  have hnone : p.firstFailed a = none := firstFailed_none herr
  have hbytes : (p.receive a buf.toList).bytes = bytes := by rw [bytes_receive, hlen]; rfl
  have hexec := exec_loadCalibrationEnd hf rfl t a buf
  refine ⟨fun hpart => ?missing, fun hall => ?complete⟩
  case missing =>
    rw [takeReads_partial (f := ⟨n, q, .loadCalibration m b, p⟩) hnone (by rw [hlen]; exact hpart), receive_eq] at hexec
    rw [hlen] at hexec
    exact hexec
  case complete =>
    rw [takeReads_complete (f := ⟨n, q, .loadCalibration m b, p⟩) hnone (by rw [hlen]; exact hall), hbytes] at hexec
    refine ⟨fun c hc => ?passes, fun r hr => ?fails⟩
    case passes =>
      have hend : endLoadCalibration m bytes (s.atTime t) =
          ((s.atTime t).modCtl fun x => x.modModule m fun y => { y with pendingCalibration := some c },
            .one .done c.parallax.length) := by rw [endLoadCalibration, hc]
      rw [hend, finishTimed_done _ _ rfl] at hexec
      exact hexec
    case fails =>
      have hend : endLoadCalibration m bytes (s.atTime t) = (s.atTime t, r) := by rw [endLoadCalibration, hr]
      rw [hend, finishTimed_refused _ _ (checkCalibration_not_done hr), finishTimed_plain] at hexec
      exact hexec

/-! ### The checks of a calibration buffer (R57, R58, R61) -/

/-- Focus codes that increase strictly, one after another. -/
def increasing (prev : Nat) (es : List ParallaxEntry) : Prop := (prev :: es.map (·.focus)).Pairwise (· < ·)

theorem increasing_cons (prev : Nat) (e : ParallaxEntry) (es : List ParallaxEntry) :
    increasing prev (e :: es) ↔ prev < e.focus ∧ increasing e.focus es := by
  simp only [increasing, List.map_cons, ← List.isChain_iff_pairwise, List.isChain_cons_cons]

theorem notIncreasing_eq_none (i prev : Nat) (es : List ParallaxEntry) :
    notIncreasing i prev es = none ↔ increasing prev es := by
  induction es generalizing i prev with
  | nil => simp [notIncreasing, increasing]
  | cons e es ih =>
    unfold notIncreasing
    rw [increasing_cons]
    split
    · rename_i h
      exact iff_of_false nofun fun h' => Nat.not_lt.2 h h'.1
    · rename_i h
      rw [ih, and_iff_right (Nat.not_le.1 h)]

/-- The first entry not above its predecessor is the one named. -/
theorem notIncreasing_some {focus : Nat → Nat} {es : List ParallaxEntry} {k i j : Nat}
    (hes : ∀ l, l < es.length → (es[l]?.map (·.focus)) = some (focus (k + l + 1))) (hj : j < es.length)
    (hle : focus (k + j + 1) ≤ focus (k + j)) (hl : ∀ l, l < j → focus (k + l) < focus (k + l + 1)) :
    notIncreasing i (focus k) es = some (i + j) := by
  induction es generalizing k i j with
  | nil => cases hj
  | cons e es ih =>
    have he : e.focus = focus (k + 1) := Option.some.inj (hes 0 (Nat.succ_pos _))
    unfold notIncreasing
    cases j with
    | zero =>
      rw [if_pos (by rw [he]; exact hle)]
      rfl
    | succ j =>
      have hlt := hl 0 (Nat.succ_pos _)
      have hshift : ∀ l, k + 1 + l = k + (l + 1) := fun l => by omega
      have hrest : notIncreasing (i + 1) (focus (k + 1)) es = some (i + 1 + j) := by
        refine ih (fun l hl' => ?_) (by simpa using hj) (by rw [hshift]; exact hle) fun l hl' => ?_
        · rw [hshift]
          exact hes (l + 1) (by simpa using hl')
        · rw [hshift]
          exact hl (l + 1) (Nat.succ_lt_succ hl')
      rw [if_neg (by rw [he]; exact Nat.not_le.2 hlt), he, hrest, Nat.add_right_comm]
      rfl

theorem tableRefusal_eq_none (es : List ParallaxEntry) :
    tableRefusal es = none ↔ (∀ e ∈ es, e.focus ≤ 1023) ∧ es.Pairwise (·.focus < ·.focus) := by
  unfold tableRefusal
  split
  · rename_i i h
    refine iff_of_false nofun fun h' => ?_
    obtain ⟨hi, hp, -⟩ := List.findIdx?_eq_some_iff_getElem.1 h
    have := h'.1 _ (List.getElem_mem hi)
    simp only [decide_eq_true_eq] at hp
    omega
  · rename_i h
    rw [List.findIdx?_eq_none_iff] at h
    have hle : ∀ e ∈ es, e.focus ≤ 1023 := fun e he => by simpa using h e he
    rw [and_iff_right hle]
    cases es with
    | nil => simp
    | cons e es => rw [notIncreasing_eq_none, increasing, ← List.map_cons, List.pairwise_map]

/-- The table of a buffer's first entries. -/
def bufferTable (buf : List Byte) (n : Nat) : List ParallaxEntry := (List.range n).map (bufferEntry buf)

theorem getElem?_bufferTable (buf : List Byte) {n j : Nat} (h : j < n) :
    (bufferTable buf n)[j]? = some (bufferEntry buf j) := by
  rw [bufferTable, List.getElem?_map, List.getElem?_range h]
  rfl

theorem length_bufferTable (buf : List Byte) (n : Nat) : (bufferTable buf n).length = n := by simp [bufferTable]

/-- The first focus code above 1023 is the one named. -/
theorem tableRefusal_large {buf : List Byte} {n j : Nat} (hj : j < n) (h : 1023 < (bufferEntry buf j).focus)
    (hl : ∀ i, i < j → (bufferEntry buf i).focus ≤ 1023) : tableRefusal (bufferTable buf n) = some j := by
  have hfind : (bufferTable buf n).findIdx? (fun e => decide (1023 < e.focus)) = some j := by
    rw [List.findIdx?_eq_some_iff_getElem]
    have hjl : j < (bufferTable buf n).length := by rwa [length_bufferTable]
    refine ⟨hjl, ?_, fun i hi => ?_⟩
    · simpa [bufferTable] using h
    · simpa [bufferTable] using hl i hi
  unfold tableRefusal
  rw [hfind]

/-- With all codes in range the first entry not above its predecessor is the one named. -/
theorem tableRefusal_order {buf : List Byte} {n j : Nat} (hall : ∀ j, j < n → (bufferEntry buf j).focus ≤ 1023)
    (hj : j + 1 < n) (hle : (bufferEntry buf (j + 1)).focus ≤ (bufferEntry buf j).focus)
    (hl : ∀ i, i < j → (bufferEntry buf i).focus < (bufferEntry buf (i + 1)).focus) :
    tableRefusal (bufferTable buf n) = some (j + 1) := by
  have hfind : (bufferTable buf n).findIdx? (fun e => decide (1023 < e.focus)) = none := by
    rw [List.findIdx?_eq_none_iff]
    intro e he
    obtain ⟨i, hi, rfl⟩ := List.mem_map.1 he
    simpa using hall i (List.mem_range.1 hi)
  obtain ⟨k, rfl⟩ : ∃ k, n = k + 1 := ⟨n - 1, by omega⟩
  have htable : bufferTable buf (k + 1) = bufferEntry buf 0 :: (List.range k).map fun i => bufferEntry buf (i + 1) := by
    rw [bufferTable, List.range_succ_eq_map, List.map_cons, List.map_map]
    rfl
  unfold tableRefusal
  rw [hfind, htable]
  dsimp only
  have hnot := notIncreasing_some (focus := fun i => (bufferEntry buf i).focus)
    (es := (List.range k).map fun i => bufferEntry buf (i + 1)) (k := 0) (i := 1) (j := j) (fun l hl' => ?_)
    (by simp; omega) (by simpa using hle) (fun l hl' => by simpa using hl l hl')
  · rw [hnot, Nat.add_comm]
  · rw [List.length_map, List.length_range] at hl'
    rw [List.getElem?_map, List.getElem?_range hl']
    simp

theorem bandOk_iff (z : Nat) : bandOk z = true ↔ 16384 ≤ z ∧ z ≤ 4194304 := by simp [bandOk]

section
variable {buf : List Byte}

theorem checkCalibration_scale (h : ¬(4096 ≤ fieldAt buf 0 4 ∧ fieldAt buf 0 4 ≤ 16777215)) :
    checkCalibration buf = .error (.one .badArgument 0) := by
  rw [checkCalibration]
  exact if_pos (show fieldAt buf 0 4 < 4096 ∨ 16777215 < fieldAt buf 0 4 by omega)

/-- With the scale in range the band decides first (R57, R61). -/
theorem checkCalibration_of_scale (h : 4096 ≤ fieldAt buf 0 4 ∧ fieldAt buf 0 4 ≤ 16777215) :
    checkCalibration buf =
      if !bandOk (fieldAt buf 12 4) then .error (.one .badArgument 12)
      else if !bandOk (fieldAt buf 16 4) then .error (.one .badArgument 16)
      else if fieldAt buf 16 4 ≤ fieldAt buf 12 4 then .error (.one .badArgument 12)
      else if 8 < fieldAt buf 20 4 then .error (.one .badTable (fieldAt buf 20 4))
      else
        match tableRefusal (bufferTable buf (min (fieldAt buf 20 4) 8)) with
        | some i => .error (.one .badTable i)
        | none => .ok (bufferCalibration buf (min (fieldAt buf 20 4) 8)) := by
  rw [checkCalibration]
  exact if_neg (show ¬(fieldAt buf 0 4 < 4096 ∨ 16777215 < fieldAt buf 0 4) by omega)

/-- The ranges of scale and band (R57). -/
def calibrationRanges (buf : List Byte) : Prop :=
  (4096 ≤ fieldAt buf 0 4 ∧ fieldAt buf 0 4 ≤ 16777215) ∧ (16384 ≤ fieldAt buf 12 4 ∧ fieldAt buf 12 4 ≤ 4194304)
    ∧ (16384 ≤ fieldAt buf 16 4 ∧ fieldAt buf 16 4 ≤ 4194304) ∧ fieldAt buf 12 4 < fieldAt buf 16 4

/-- With scale and band in range the table decides. -/
theorem checkCalibration_of_ranges (h : calibrationRanges buf) :
    checkCalibration buf =
      if 8 < fieldAt buf 20 4 then .error (.one .badTable (fieldAt buf 20 4))
      else
        match tableRefusal (bufferTable buf (min (fieldAt buf 20 4) 8)) with
        | some i => .error (.one .badTable i)
        | none => .ok (bufferCalibration buf (min (fieldAt buf 20 4) 8)) := by
  obtain ⟨h1, h2, h3, h4⟩ := h
  rw [checkCalibration_of_scale h1, (bandOk_iff _).2 h2, (bandOk_iff _).2 h3]
  rw [if_neg (by decide), if_neg (by decide), if_neg (by omega)]

/-- The checks pass exactly with scale, band, count and table in order. -/
theorem checkCalibration_ok_iff (c : Calibration) : checkCalibration buf = .ok c ↔
    calibrationRanges buf ∧ fieldAt buf 20 4 ≤ 8 ∧ tableRefusal (bufferTable buf (fieldAt buf 20 4)) = none
      ∧ c = bufferCalibration buf (fieldAt buf 20 4) := by
  constructor
  · intro hc
    have hr : calibrationRanges buf := by
      by_contra hn
      unfold calibrationRanges at hn
      by_cases h1 : 4096 ≤ fieldAt buf 0 4 ∧ fieldAt buf 0 4 ≤ 16777215
      · rw [checkCalibration_of_scale h1] at hc
        split at hc
        · cases hc
        · rename_i h2
          rw [Bool.not_eq_true', Bool.not_eq_false, bandOk_iff] at h2
          split at hc
          · cases hc
          · rename_i h3
            rw [Bool.not_eq_true', Bool.not_eq_false, bandOk_iff] at h3
            split at hc
            · cases hc
            · rename_i h4
              exact hn ⟨h1, h2, h3, Nat.not_le.1 h4⟩
      · rw [checkCalibration_scale h1] at hc
        cases hc
    rw [checkCalibration_of_ranges hr] at hc
    split at hc
    · cases hc
    · rename_i h8
      rw [Nat.min_eq_left (Nat.not_lt.1 h8)] at hc
      split at hc
      · cases hc
      · rename_i htab
        cases hc
        exact ⟨hr, Nat.not_lt.1 h8, htab, rfl⟩
  · rintro ⟨hr, h8, htab, rfl⟩
    rw [checkCalibration_of_ranges hr, if_neg (Nat.not_lt.2 h8), Nat.min_eq_left h8, htab]

/-- A record is the buffer's exactly where it holds the buffer's fields. -/
theorem eq_bufferCalibration (c : Calibration) (n : Nat) : c = bufferCalibration buf n ↔
    c.scale = fieldAt buf 0 4 ∧ c.cx = signedAt buf 4 4 ∧ c.cy = signedAt buf 8 4 ∧ c.lo = fieldAt buf 12 4
      ∧ c.hi = fieldAt buf 16 4 ∧ c.parallax.length = n
      ∧ ∀ j, j < c.parallax.length → c.parallax[j]? = some (bufferEntry buf j) := by
  constructor
  · rintro rfl
    refine ⟨rfl, rfl, rfl, rfl, rfl, length_bufferTable buf n, fun j hj => getElem?_bufferTable buf ?_⟩
    rwa [← length_bufferTable buf n]
  · obtain ⟨_, _, _, _, _, l⟩ := c
    rintro ⟨rfl, rfl, rfl, rfl, rfl, hlen, hall⟩
    dsimp only at hlen hall
    have hl : l = bufferTable buf n := by
      apply List.ext_getElem?
      intro j
      by_cases hj : j < l.length
      · rw [hall j hj, getElem?_bufferTable buf (hlen ▸ hj)]
      · rw [List.getElem?_eq_none (Nat.not_lt.1 hj), List.getElem?_eq_none (by rw [length_bufferTable]; omega)]
    rw [hl]
    rfl

end

/-- Settles O29: a buffer that passes by `checkCalibration_ok_iff`, each failure in the order of the checks. -/
theorem calibrationCheckIsExact : Obligations.CalibrationCheckIsExact := by
  intro buf
  refine ⟨fun c => ?passes, ?fails⟩
  case passes =>
    rw [checkCalibration_ok_iff, tableRefusal_eq_none]
    constructor
    · rintro ⟨hr, h8, ⟨hle, hpw⟩, hc⟩
      obtain ⟨h1, h2, h3, h4, h5, h6, h7⟩ := (eq_bufferCalibration ..).1 hc
      obtain ⟨⟨r1, r2⟩, ⟨r3, -⟩, ⟨-, r4⟩, r5⟩ := hr
      have htab : c.parallax = bufferTable buf (fieldAt buf 20 4) := by rw [hc]; rfl
      refine ⟨⟨h1, h2, h3, h4, h5, h6, h7⟩, h1 ▸ r1, h1 ▸ r2, h4 ▸ r3, ?_, h5 ▸ r4, h6 ▸ h8, htab ▸ hle, htab ▸ hpw⟩
      rw [h4, h5]
      exact r5
    · rintro ⟨⟨h1, h2, h3, h4, h5, h6, h7⟩, r1, r2, r3, r4, r5, r6, hle, hpw⟩
      have hc : c = bufferCalibration buf (fieldAt buf 20 4) := (eq_bufferCalibration ..).2 ⟨h1, h2, h3, h4, h5, h6, h7⟩
      have htab : c.parallax = bufferTable buf (fieldAt buf 20 4) := by rw [hc]; rfl
      refine ⟨?_, h6 ▸ r6, ⟨htab ▸ hle, htab ▸ hpw⟩, hc⟩
      unfold calibrationRanges
      omega
  case fails =>
    intro fails lo hi count focus ok1 ok2 ok3
    refine ⟨fun h1 => checkCalibration_scale h1, fun h1 h2 => ?lo, fun h1 h2 h3 => ?hi, fun h1 h2 h3 h4 => ?band,
      fun h1 h2 h3 h4 => ⟨fun h8 => ?count, fun h8 => ⟨fun j hj hlarge hl => ?large, fun hall j hj hle hl => ?order⟩⟩⟩
    case lo =>
      have hb : bandOk (fieldAt buf 12 4) = false := by rw [← Bool.not_eq_true, bandOk_iff]; exact h2
      show checkCalibration buf = _
      rw [checkCalibration_of_scale h1, hb]
      rfl
    case hi =>
      have hb : bandOk (fieldAt buf 16 4) = false := by rw [← Bool.not_eq_true, bandOk_iff]; exact h3
      show checkCalibration buf = _
      rw [checkCalibration_of_scale h1, (bandOk_iff _).2 h2, hb]
      rfl
    case band =>
      show checkCalibration buf = _
      rw [checkCalibration_of_scale h1, (bandOk_iff _).2 h2, (bandOk_iff _).2 h3]
      exact if_pos h4
    case count =>
      show checkCalibration buf = _
      rw [checkCalibration_of_ranges ⟨h1, h2, h3, h4⟩, if_pos h8]
      rfl
    case large =>
      show checkCalibration buf = _
      rw [checkCalibration_of_ranges ⟨h1, h2, h3, h4⟩, if_neg (Nat.not_lt.2 h8), Nat.min_eq_left h8,
        tableRefusal_large hj hlarge hl]
      rfl
    case order =>
      show checkCalibration buf = _
      rw [checkCalibration_of_ranges ⟨h1, h2, h3, h4⟩, if_neg (Nat.not_lt.2 h8), Nat.min_eq_left h8,
        tableRefusal_order hall hj hle hl]
      rfl

/-! ### The end by an erring answer (R50, R55, R61) -/

/-- A fresh erring answer fails some access. -/
theorem firstFailed_exists {n : Nat} {p : Progress} {a : AccessAnswers n}
    (h : ∃ i, p.fresh a i = true ∧ a.errs.getLsbD i = true) : ∃ j, p.firstFailed a = some j := by
  classical
  obtain ⟨hj, he⟩ := Nat.find_spec h
  refine ⟨Nat.find h, firstFailed_some hj he fun i hi hf => ?_⟩
  have := Nat.find_min h hi
  simpa [hf] using this

/-- Settles O30: the failed access by `firstFailed_some`, the writes of a dump by `getElem?_dumpWritesOf`. -/
theorem timedEndsReportErrors : Obligations.TimedEndsReportErrors := by
  intro t n q m b p j s finish
  refine ⟨fun k a buf hf => ?load, fun es a h hf => ?dump, fun a buf hf hex => ?calibration⟩
  case load =>
    intro fails hj hl
    obtain ⟨h1, h2, h3, h4⟩ := hj
    have hfail : p.firstFailed a = some j := by
      refine firstFailed_some ((fresh_iff ..).2 ⟨h1, h2, h3⟩) h4 fun i hi hfi => ?_
      obtain ⟨g1, g2, g3⟩ := (fresh_iff ..).1 hfi
      by_contra hc
      exact hl i hi ⟨g1, g2, g3, by simpa using hc⟩
    have hexec := exec_loadSlotsEnd hf rfl t a buf
    rw [takeReads_failed (f := ⟨n, q, .loadSlots m b k, p⟩) hfail, finishTimed_plain] at hexec
    exact hexec
  case dump =>
    intro issued fresh hj he hl
    have hissued : (p.issueTo h).issued = issued := rfl
    have hfresh : ∀ i, (p.issueTo h).fresh a i = true ↔ fresh i := fun i => fresh_iff ..
    have hfail : (p.issueTo h).firstFailed a = some j :=
      firstFailed_some ((hfresh j).2 hj) he fun i hi hfi => hl i hi ((hfresh i).1 hfi)
    have hexec := exec_dumpSlotsEnd hf rfl t a h
    rw [takeWrites_failed (f := ⟨n, q, .dumpSlots m b es, p⟩) hfail, finishTimed_plain] at hexec
    refine ⟨dumpWritesOf b es issued ((p.issueTo h).mark a), fun i e hi hie => ?_, ?_, hexec⟩
    · refine ⟨⟨b + 32 * i, e, (p.issueTo h).mark a i⟩, ?_, rfl, rfl, fun hfi => ?_, fun x hx => ?_, fun hfi hx => ?_⟩
      · rw [getElem?_dumpWritesOf, if_pos hi, hie]
        rfl
      · exact if_pos ((hfresh i).2 hfi)
      · have hnf : ¬(p.issueTo h).fresh a i = true := by
          rw [hfresh]
          rintro ⟨-, -, hnone⟩
          rw [hx] at hnone
          cases hnone
        show (p.issueTo h).mark a i = _
        rw [Progress.mark, if_neg hnf, answers_issueTo, hx]
        rfl
      · have hnf : ¬(p.issueTo h).fresh a i = true := (hfresh i).not.2 hfi
        show (p.issueTo h).mark a i = _
        rw [Progress.mark, if_neg hnf, answers_issueTo]
        cases ha : p.answers[i]? with
        | none => rfl
        | some y =>
          cases y with
          | none => rfl
          | some x => exact absurd ha (hx x)
    · simp [dumpWritesOf]
  case calibration =>
    obtain ⟨i, h1, h2, h3, h4⟩ := hex
    obtain ⟨k, hk⟩ := firstFailed_exists ⟨i, (fresh_iff p a i).2 ⟨h1, h2, h3⟩, h4⟩
    have hexec := exec_loadCalibrationEnd hf rfl t a buf
    rw [takeReads_failed (f := ⟨n, q, .loadCalibration m b, p⟩) hk, finishTimed_refused (e := refuseWith (s.atTime t) .fetchFailed 0) _ _ nofun,
      finishTimed_plain] at hexec
    exact hexec

end Sys2Proof.Machine
end

section
/-! Hold, geometry, zoom and hand-off commands, FREEZE and THAW (R52, R53, R59, R74, R84, R85, R104, R106, R107), and the
view commands (R126 to R128). -/

namespace Sys2Proof.Machine

-- Declaration after declaration: elaborated side by side, those of the joined text need more memory than the check has.
set_option Elab.async false

/-! ### HOLD_FRAME and RELEASE_HOLD (R52, R53) -/

section
variable {s : State} {m : Word} {i : ModuleId}

theorem freeTicket_some {ms : ModuleSlots} {k : Fin 2} (hk : ms.tickets[k] = none)
    (hl : ∀ j, j < k → ms.tickets[j] ≠ none) : ms.freeTicket = some k := by
  unfold ModuleSlots.freeTicket
  match k with
  | 0 => rw [if_pos (by rw [hk]; rfl)]
  | 1 =>
    have h0 := hl 0 (by decide)
    rw [if_neg (by rwa [Option.isNone_iff_eq_none]), if_pos (by rw [hk]; rfl)]

theorem freeTicket_none {ms : ModuleSlots} (h : ∀ k : Fin 2, ms.tickets[k] ≠ none) : ms.freeTicket = none := by
  unfold ModuleSlots.freeTicket
  rw [if_neg (by rw [Option.isNone_iff_eq_none]; exact h 0), if_neg (by rw [Option.isNone_iff_eq_none]; exact h 1)]

theorem holdFrame_takes {slot : Nat} {k : Fin 2} (hm : moduleArg s.cfg m = some i)
    (hn : s.store.mods[i].newest = some slot) (hk : s.store.mods[i].freeTicket = some k) :
    cmdHoldFrame m s =
      (s.modSlots i fun ms => { (ms.hold slot (.ticket k)) with tickets := ms.tickets.set k (some slot) },
        { outcome := .done, d0 := slot, d1 := k.val, d2 := 0 }) := by
  rw [cmdHoldFrame, hm]
  dsimp only
  rw [hn]
  dsimp only
  rw [hk]

theorem holdFrame_noFrame (hm : moduleArg s.cfg m = some i) (hn : s.store.mods[i].newest = none) :
    cmdHoldFrame m s = (s, .plain .noFrame) := by
  rw [cmdHoldFrame, hm]
  dsimp only
  rw [hn]
  rfl

theorem holdFrame_holdLimit {slot : Nat} (hm : moduleArg s.cfg m = some i) (hn : s.store.mods[i].newest = some slot)
    (hk : s.store.mods[i].freeTicket = none) : cmdHoldFrame m s = (s, .plain .holdLimit) := by
  rw [cmdHoldFrame, hm]
  dsimp only
  rw [hn]
  dsimp only
  rw [hk]
  rfl

theorem releaseHold_takes {k : Word} {slot : Nat} (hm : moduleArg s.cfg m = some i) (h : k.toNat < 2)
    (hk : s.store.mods[i].tickets[(⟨k.toNat, h⟩ : Fin 2)] = some slot) :
    cmdReleaseHold m k s =
      (s.modSlots i fun ms =>
          { ms with
            slots := ms.slots.modify slot (·.unhold (.ticket ⟨k.toNat, h⟩))
            tickets := ms.tickets.set k.toNat none },
        .one .done slot) := by
  rw [cmdReleaseHold, hm]
  dsimp only
  rw [dif_pos h, hk]

theorem releaseHold_bad {k : Word} (hm : moduleArg s.cfg m = some i)
    (hk : 2 ≤ k.toNat ∨ ∃ h : k.toNat < 2, s.store.mods[i].tickets[(⟨k.toNat, h⟩ : Fin 2)] = none) :
    cmdReleaseHold m k s = (s, .plain .badArgument) := by
  rw [cmdReleaseHold, hm]
  dsimp only
  obtain hk | ⟨h, hk⟩ := hk
  · rw [dif_neg (Nat.not_lt.2 hk)]
    rfl
  · rw [dif_pos h, hk]
    rfl

end

/-- Settles O31: each branch of the two commands. -/
theorem holdCommandsTake : Obligations.HoldCommandsTake := by
  refine ⟨fun t q m i s hi hm => ?hold, fun t q m k i s hi hm => ?release, fun t q m k s hi hm => ?bad⟩
  case hold =>
    have hmt : moduleArg (s.atTime t).cfg m = some i := hm
    rw [exec_of_idle (t := t) (c := .holdFrame m) rfl rfl nofun hi, dispatch, finishCommand_plain]
    refine ⟨fun slot k hn hk hl => ?_, fun hn => ?_, fun hn hk => ?_⟩
    · rw [holdFrame_takes hmt hn (freeTicket_some hk hl)]
      rfl
    · rw [holdFrame_noFrame hmt (List.getLast?_eq_none_iff.2 hn)]
    · rw [holdFrame_holdLimit hmt (List.getLast?_eq_some_getLast hn) (freeTicket_none hk)]
  case release =>
    have hmt : moduleArg (s.atTime t).cfg m = some i := hm
    rw [exec_of_idle (t := t) (c := .releaseHold m k) rfl rfl nofun hi, dispatch, finishCommand_plain]
    refine ⟨fun h slot hk => ?_, fun hk => ?_⟩
    · rw [releaseHold_takes hmt h hk]
      rfl
    · rw [releaseHold_bad hmt hk]
  case bad =>
    have hmt : moduleArg (s.atTime t).cfg m = none := moduleArg_none hm
    rw [exec_of_idle (t := t) (c := .holdFrame m) rfl rfl nofun hi,
      exec_of_idle (t := t) (c := .releaseHold m k) rfl rfl nofun hi, dispatch, dispatch, finishCommand_plain,
      finishCommand_plain, cmdHoldFrame, cmdReleaseHold, hmt]
    exact ⟨rfl, rfl⟩

/-! ### SET_FIELD, ZOOM_TO and SET_HANDOFF (R59, R74, R104) -/

/-- Settles O32: the checks in their order. -/
theorem setFieldTakes : Obligations.SetFieldTakes := by
  intro t q w lo hi s hidle bad ok1 ok2 ok3
  have key : ∀ n, cmdSetField w lo hi (s.atTime t) = refuseWith (s.atTime t) .badArgument n → bad n := fun n hn => by
    show exec _ s = _
    rw [exec_of_idle (t := t) (c := .setField w lo hi) rfl rfl nofun hidle, dispatch, hn,
      finishCommand_refused (e := refuseWith (s.atTime t) .badArgument n) _ _ _ nofun]
    rfl
  refine ⟨fun h1 => key 1 ?_, fun h1 h2 => key 2 ?_, fun h1 h2 h3 => key 3 ?_, fun h1 h2 h3 h4 => key 4 ?_,
    fun h1 h2 h3 h4 => ?takes⟩
  · rw [cmdSetField, if_pos (by omega)]
  · rw [cmdSetField, if_neg (by omega), if_pos (by omega)]
  · rw [cmdSetField, if_neg (by omega), if_neg (by omega), if_pos (by omega)]
  · rw [cmdSetField, if_neg (by omega), if_neg (by omega), if_neg (by omega), if_pos (by omega)]
  case takes =>
    rw [exec_of_idle (t := t) (c := .setField w lo hi) rfl rfl nofun hidle, dispatch, cmdSetField, if_neg (by omega),
      if_neg (by omega), if_neg (by omega), if_neg (by omega), finishCommand_done _ _ rfl]
    rfl

theorem keptRate_eq (r : Nat) : keptRate r = if r ≤ 65536 then 65536 else if 131072 < r then 131072 else r := by
  unfold keptRate
  split
  · rfl
  · split <;> omega

/-- Settles O33: the clamp and the kept rate, with the event exactly where the clamp changed the target. -/
theorem zoomToTakes : Obligations.ZoomToTakes := by
  intro t q target rate s hidle z r s1
  have hz : clamp s.ctl.field.zmin s.ctl.field.zmax target.toNat = z := rfl
  have hr : keptRate rate.toNat = r := keptRate_eq _
  have hbits : bitsNat [clamped target.toNat z, clamped rate.toNat r]
      = (if target.toNat = z then 0 else 1) + (if rate.toNat = r then 0 else 2) := by
    by_cases h1 : target.toNat = z <;> by_cases h2 : rate.toNat = r <;> simp [bitsNat, clamped, bit, h1, h2]
  have hcmd : cmdZoomTo target rate (s.atTime t) =
      ({ s1 with ctl := { s.ctl with pendingZoom := some { target := z, rate := r } } },
        { outcome := .done
          d0 := (if target.toNat = z then 0 else 1) + (if rate.toNat = r then 0 else 2)
          d1 := z, d2 := r }) := by
    unfold cmdZoomTo
    rw [State.atTime_ctl, hz, hr, ← hbits]
    dsimp only
    by_cases h : target.toNat = z
    · have hs1 : s1 = s.atTime t := if_pos h
      rw [hs1, if_neg (by simp [clamped, h])]
      rfl
    · have hs1 : s1 = (s.atTime t).raise (zoomClampedRaise z) := if_neg h
      rw [hs1, if_pos (by simp [clamped, h])]
      rfl
  rw [exec_of_idle (t := t) (c := .zoomTo target rate) rfl rfl nofun hidle, dispatch, hcmd, finishCommand_done _ _ rfl]

/-- Settles O34: each branch of the two commands. -/
theorem forceCommandsTake : Obligations.ForceCommandsTake := by
  intro t q m s hi pend
  rw [exec_of_idle (t := t) (c := .forceModule m) rfl rfl nofun hi,
    exec_of_idle (t := t) (c := .releaseForce) rfl rfl nofun hi, dispatch, dispatch]
  refine ⟨fun i hm hen => ?_, fun i hm hen => ?_, fun hm => ?_, ?_⟩
  · have hmt : moduleArg (s.atTime t).cfg m = some i := hm
    rw [cmdForceModule, hmt]
    dsimp only
    rw [if_pos (show (s.atTime t).trackers[i].record.enabled = true from hen), finishCommand_done _ _ rfl]
    rfl
  · have hmt : moduleArg (s.atTime t).cfg m = some i := hm
    rw [cmdForceModule, hmt]
    dsimp only
    rw [if_neg (by rw [State.atTime_trackers, hen]; decide),
      finishCommand_refused (e := refuse (s.atTime t) .notEnabled) _ _ _ nofun]
    rfl
  · have hmt : moduleArg (s.atTime t).cfg m = none := moduleArg_none hm
    rw [cmdForceModule, hmt]
    dsimp only
    rw [finishCommand_refused (e := refuse (s.atTime t) .badArgument) _ _ _ nofun]
    rfl
  · rw [finishCommand_done _ _ rfl]
    rfl

theorem clamp_zero (b v : Nat) : clamp 0 b v = min v b := by
  unfold clamp
  rw [if_neg (Nat.not_lt_zero v)]
  split <;> omega

theorem clamp_one {b : Nat} (h : 1 ≤ b) (v : Nat) : clamp 1 b v = max 1 (min v b) := by
  unfold clamp
  split
  · omega
  · split <;> omega

/-- A clamped value's mark among the marks of a detail. -/
theorem bit_clamped (a b k : Nat) : k * bit (clamped a b) = if a = b then 0 else k := by
  by_cases h : a = b <;> simp [clamped, bit, h]

/-- Settles O35: the six clamps, and their marks by `bit_clamped`. -/
theorem setHandoffTakes : Obligations.SetHandoffTakes := by
  intro t q h f l p d u s hi hp changed
  have hbits : bitsNat [clamped h.toNat hp.hysteresis, clamped f.toNat hp.fade, clamped l.toNat hp.relax,
        clamped p.toNat hp.prepare, clamped d.toNat hp.tolerance, clamped u.toNat hp.quality]
      = changed h.toNat hp.hysteresis 1 + changed f.toNat hp.fade 2 + changed l.toNat hp.relax 4
          + changed p.toNat hp.prepare 8 + changed d.toNat hp.tolerance 16 + changed u.toNat hp.quality 32 := by
    simp only [changed, ← bit_clamped, bitsNat]
    ring
  have hcmd : cmdSetHandoff h f l p d u (s.atTime t) =
      ({ s.atTime t with ctl := { s.ctl with pendingParams := some hp } },
        .one .done (changed h.toNat hp.hysteresis 1 + changed f.toNat hp.fade 2 + changed l.toNat hp.relax 4
          + changed p.toNat hp.prepare 8 + changed d.toNat hp.tolerance 16 + changed u.toNat hp.quality 32)) := by
    unfold cmdSetHandoff
    rw [← hbits, clamp_zero, clamp_zero, clamp_zero, clamp_zero, clamp_one (by decide), clamp_one (by decide)]
    rfl
  rw [exec_of_idle (t := t) (c := .setHandoff h f l p d u) rfl rfl nofun hi, dispatch, hcmd, finishCommand_done _ _ rfl]

/-! ### FREEZE and THAW (R46, R106, R107) -/

theorem partSlot_eq_some {m : ModuleId} {p : Option Part} {i : Nat} :
    partSlot m p = some i ↔ ∃ x, p = some x ∧ x.module = m ∧ x.slot = some i := by
  unfold partSlot
  rw [Option.bind_eq_some_iff]
  refine exists_congr fun x => and_congr_right fun _ => ?_
  split
  · rename_i h; simp [h]
  · rename_i h; simp [h]

/-- An output frame names a slot for a module by one of its parts. -/
theorem pinnedFor_some {w : View} {m : ModuleId} {i : Nat} (h : w.pinnedFor m = some i) :
    ∃ f o p, w.openName = some f ∧ w.frame f = some o ∧ (o.serving = some p ∨ o.second = some p) ∧ p.module = m
      ∧ p.slot = some i := by
  unfold View.pinnedFor at h
  obtain ⟨o, ho, h⟩ := Option.bind_eq_some_iff.1 h
  obtain ⟨f, hf, ho⟩ := Option.bind_eq_some_iff.1 ho
  obtain h | ⟨-, h⟩ := Option.or_eq_some_iff.1 h
  · obtain ⟨p, hp, hm, hs⟩ := partSlot_eq_some.1 h
    exact ⟨f, o, p, hf, ho, .inl hp, hm, hs⟩
  · obtain ⟨p, hp, hm, hs⟩ := partSlot_eq_some.1 h
    exact ⟨f, o, p, hf, ho, .inr hp, hm, hs⟩

theorem pinnedFor_ne_none {w : View} {m : ModuleId} {f : FrameName} {o : OutputFrame} {p : Part} {i : Nat}
    (hf : w.openName = some f) (ho : w.frame f = some o) (hp : o.serving = some p ∨ o.second = some p)
    (hm : p.module = m) (hs : p.slot = some i) : w.pinnedFor m ≠ none := by
  have hnone : ((partSlot m o.serving).or (partSlot m o.second)) ≠ none := by
    rw [Ne, Option.or_eq_none_iff]
    rintro ⟨h1, h2⟩
    obtain hp | hp := hp
    · rw [partSlot_eq_some.2 ⟨p, hp, hm, hs⟩] at h1; cases h1
    · rw [partSlot_eq_some.2 ⟨p, hp, hm, hs⟩] at h2; cases h2
  unfold View.pinnedFor
  rw [hf, Option.bind_some, ho, Option.bind_some]
  exact hnone

/-- FREEZE's slots depend on the output frames alone. -/
theorem freezeSlot_freezeModule (s : State) (n m : ModuleId) : (s.freezeModule n).freezeSlot m = s.freezeSlot m := rfl

/-- A module's slots with the freeze holder on the slot FREEZE names for it (R46, R106). -/
def State.frozenSlots (s : State) (m : ModuleId) : ModuleSlots :=
  (s.freezeSlot m).elim s.store.mods[m] fun i =>
    { s.store.mods[m] with slots := s.store.mods[m].slots.modify i (·.hold .freeze) }

theorem freezeModule_same (s : State) (m : ModuleId) : (s.freezeModule m).store.mods[m] = s.frozenSlots m := by
  have h : (s.freezeModule m).store.mods = s.store.mods.set m
      ((s.freezeSlot m).elim s.store.mods[m] (s.store.mods[m].hold · .freeze)) := rfl
  rw [h, Fin.getElem_fin, Vector.getElem_set_self]
  rfl

theorem freezeModule_other (s : State) {m n : ModuleId} (h : n ≠ m) :
    (s.freezeModule n).store.mods[m] = s.store.mods[m] := by
  have hs : (s.freezeModule n).store.mods = s.store.mods.set n
      ((s.freezeSlot n).elim s.store.mods[n] (s.store.mods[n].hold · .freeze)) := rfl
  rw [hs, Fin.getElem_fin, Vector.getElem_set_ne _ _ fun he => h (Fin.ext he)]
  rfl

/-- The modules are frozen one after another, each by its own slot. -/
theorem foldl_freezeModule (l : List ModuleId) (hl : l.Nodup) (s : State) :
    ∃ store, l.foldl State.freezeModule s = { s with store := store } ∧ store.closeOrder = s.store.closeOrder
      ∧ (∀ m, m ∈ l → store.mods[m] = s.frozenSlots m) ∧ ∀ m, m ∉ l → store.mods[m] = s.store.mods[m] := by
  induction l generalizing s with
  | nil => exact ⟨s.store, rfl, rfl, nofun, fun _ _ => rfl⟩
  | cons n l ih =>
    obtain ⟨hn, hl⟩ := List.nodup_cons.1 hl
    obtain ⟨store, hs, hc, hin, hout⟩ := ih hl (s.freezeModule n)
    refine ⟨store, hs, hc, fun m hm => ?_, fun m hm => ?_⟩
    · obtain rfl | hm := List.mem_cons.1 hm
      · rw [hout m hn, freezeModule_same]
      · have hne : n ≠ m := fun h => hn (h ▸ hm)
        rw [hin m hm, State.frozenSlots, freezeSlot_freezeModule, freezeModule_other s hne]
        rfl
    · obtain ⟨hne, hm⟩ := not_or.1 (List.mem_cons.not.1 hm)
      rw [hout m hm, freezeModule_other s (Ne.symm hne)]

theorem viewId_other {u v : ViewId} (h : u ≠ v) : (if v = 0 then 1 else 0 : ViewId) = u := by
  revert u v
  decide

/-- The slot FREEZE names, with the other view named (R106). -/
theorem freezeSlot_of_pacing {s : State} {u v : ViewId} (hv : s.pacingView = some v) (hu : u ≠ v) (m : ModuleId) :
    s.freezeSlot m = (s.comp.views[v].pinnedFor m).or
      (if s.comp.views[u].enabled then s.comp.views[u].pinnedFor m else none) := by
  obtain rfl := viewId_other hu
  rw [State.freezeSlot, hv]

/-- Settles O36: the named slot by `pinnedFor_some` and `pinnedFor_ne_none`, the holders by `foldl_freezeModule`. -/
theorem freezeAndThawTake : Obligations.FreezeAndThawTake := by
  unfold Obligations.FreezeAndThawTake
  intro published
  have hpub : ∀ (c : Controller) b,
      c.setFrozen b = { c with frozen := b, published := published { c with frozen := b } } := fun c b => by
    unfold Controller.setFrozen Controller.publish Controller.publication
    rw [mapAll_eq_map]
  refine ⟨fun s m => ?slot, fun t q s hi => ⟨fun hf => ?freeze, fun hf => ?frozen⟩,
    fun t q s hi => ⟨fun hf => ?thaw, fun hf => ?thawed⟩⟩
  case slot =>
    intro pins
    refine ⟨fun hp => by rw [State.freezeSlot, hp], fun v hv => ?_⟩
    have hsome : ∀ u i, s.comp.views[u].pinnedFor m = some i → pins u i := fun u i => pinnedFor_some
    have hnone : ∀ u, (∀ j, ¬pins u j) → s.comp.views[u].pinnedFor m = none := fun u h => by
      cases hp : s.comp.views[u].pinnedFor m with
      | none => rfl
      | some i => exact absurd (hsome u i hp) (h i)
    have hone : ∀ u i, pins u i → (∀ j, pins u j → j = i) → s.comp.views[u].pinnedFor m = some i := by
      rintro u i ⟨f, o, p, hf, ho, hp, hm, hs⟩ huniq
      cases hx : s.comp.views[u].pinnedFor m with
      | none => exact absurd hx (pinnedFor_ne_none hf ho hp hm hs)
      | some j => rw [huniq j (hsome u j hx)]
    refine ⟨fun i hi huniq => ?_, fun hno => ⟨fun u i hu hen hi huniq => ?_, fun hother => ?_⟩⟩
    · rw [State.freezeSlot, hv]
      dsimp only
      rw [hone v i hi huniq]
      rfl
    · rw [freezeSlot_of_pacing hv hu, hnone v hno, Option.none_or, if_pos hen, hone u i hi huniq]
    · obtain ⟨u, hu⟩ : ∃ u, u ≠ v := exists_ne v
      rw [freezeSlot_of_pacing hv hu, hnone v hno, Option.none_or]
      split
      · rename_i hen
        exact hnone u (hother u hu hen)
      · rfl
  case freeze =>
    obtain ⟨store, hs, hc, hin, -⟩ := foldl_freezeModule allModules (by decide) (s.atTime t)
    refine ⟨store, ?_, hc, fun m => hin m (mem_allModules m)⟩
    rw [exec_of_idle (t := t) (c := .freeze) rfl rfl nofun hi, dispatch, cmdFreeze,
      if_neg (by rw [State.atTime_ctl, hf]; decide), finishCommand_done _ _ rfl, hs]
    dsimp only [done, State.modCtl]
    rw [hpub]
    rfl
  case frozen =>
    rw [exec_of_idle (t := t) (c := .freeze) rfl rfl nofun hi, dispatch, cmdFreeze,
      if_pos (show (s.atTime t).ctl.frozen = true from hf), finishCommand_done _ _ rfl]
    rfl
  case thaw =>
    refine ⟨(s.unholdAll .freeze).store, ?_, rfl, fun m => ?_⟩
    · rw [exec_of_idle (t := t) (c := .thaw) rfl rfl nofun hi, dispatch, cmdThaw,
        if_pos (show (s.atTime t).ctl.frozen = true from hf), finishCommand_done _ _ rfl]
      dsimp only [done, State.modCtl]
      rw [hpub]
      rfl
    · rw [State.unholdAll_store, Fin.getElem_fin, mapAll_getElem]
      rfl
  case thawed =>
    rw [exec_of_idle (t := t) (c := .thaw) rfl rfl nofun hi, dispatch, cmdThaw,
      if_neg (by rw [State.atTime_ctl, hf]; decide), finishCommand_done _ _ rfl]
    rfl

/-! ### CONFIGURE_VIEW (R126) -/

section
variable {w h d l : Nat}

theorem viewRange_width (h1 : ¬(64 ≤ w ∧ w ≤ 7680)) : viewRange w h d l = some 8 := by
  rw [viewRange, if_pos (by omega)]

theorem viewRange_height (h1 : 64 ≤ w ∧ w ≤ 7680) (h2 : ¬(64 ≤ h ∧ h ≤ 4320)) : viewRange w h d l = some 12 := by
  rw [viewRange, if_neg (by omega), if_pos (by omega)]

theorem viewRange_stride (h1 : 64 ≤ w ∧ w ≤ 7680) (h2 : 64 ≤ h ∧ h ≤ 4320)
    (h3 : ¬(d % 64 = 0 ∧ 4 * w ≤ d ∧ d ≤ 32768)) : viewRange w h d l = some 16 := by
  rw [viewRange, if_neg (by omega), if_neg (by omega), if_pos (by omega)]

theorem viewRange_timeout (h1 : 64 ≤ w ∧ w ≤ 7680) (h2 : 64 ≤ h ∧ h ≤ 4320)
    (h3 : d % 64 = 0 ∧ 4 * w ≤ d ∧ d ≤ 32768) (h4 : ¬(1 ≤ l ∧ l ≤ 255)) : viewRange w h d l = some 28 := by
  rw [viewRange, if_neg (by omega), if_neg (by omega), if_neg (by omega), if_pos (by omega)]

theorem viewRange_ok (h1 : 64 ≤ w ∧ w ≤ 7680) (h2 : 64 ≤ h ∧ h ≤ 4320)
    (h3 : d % 64 = 0 ∧ 4 * w ≤ d ∧ d ≤ 32768) (h4 : 1 ≤ l ∧ l ≤ 255) : viewRange w h d l = none := by
  rw [viewRange, if_neg (by omega), if_neg (by omega), if_neg (by omega), if_neg (by omega)]

end

section
variable {s : State} {v : ViewId} {w h d l : Word} {a : Addr}

/-- The window CONFIGURE_VIEW asks for (R2, R126). -/
def viewExtent (h d : Word) (a : Addr) : Extent where
  start := pageDown a.toNat
  size := 4096 + pixelArea h.toNat d.toNat

theorem configureView_field {n : Nat} (hr : viewRange w.toNat h.toNat d.toNat l.toNat = some n) :
    cmdConfigureView (word v.val) w h d a l s = (s, .one .badArgument n) := by
  rw [cmdConfigureView, viewArg_word]
  dsimp only
  rw [hr]
  rfl

theorem configureView_inUse (hr : viewRange w.toNat h.toNat d.toNat l.toNat = none)
    (he : s.comp.views[v].enabled = true) : cmdConfigureView (word v.val) w h d a l s = (s, .plain .inUse) := by
  rw [cmdConfigureView, viewArg_word]
  dsimp only
  rw [hr]
  exact if_pos he

theorem configureView_window {r : Reply} (hr : viewRange w.toNat h.toNat d.toNat l.toNat = none)
    (he : s.comp.views[v].enabled = false) (hw : s.windowRefusal (4 + v.val) none (viewExtent h d a) = some r) :
    cmdConfigureView (word v.val) w h d a l s = (s, r) := by
  unfold viewExtent at hw
  rw [cmdConfigureView, viewArg_word]
  dsimp only
  rw [hr]
  dsimp only
  rw [if_neg (by rw [he]; decide), hw]

theorem configureView_done (hr : viewRange w.toNat h.toNat d.toNat l.toNat = none)
    (he : s.comp.views[v].enabled = false) (hw : s.windowRefusal (4 + v.val) none (viewExtent h d a) = none) :
    cmdConfigureView (word v.val) w h d a l s =
      ({ s with
          comp :=
            { s.comp with
              views := s.comp.views.set v
                { s.comp.views[v] with
                  configured := true, width := w.toNat, height := h.toNat, stride := d.toNat, timeout := l.toNat } }
          path := { s.path with viewWindows := s.path.viewWindows.set v (.configured (viewExtent h d a)) } },
        .plain .done) := by
  unfold viewExtent at hw
  rw [cmdConfigureView, viewArg_word]
  dsimp only
  rw [hr]
  dsimp only
  rw [if_neg (by rw [he]; decide), hw]
  rfl

end

/-- Settles O37: the range checks in their order, then service, then the window check. -/
theorem configureViewTakes : Obligations.ConfigureViewTakes := by
  refine ⟨?takes, ?refused⟩
  case takes =>
    intro t q w h d a l v s hi hw1 hw2 hh1 hh2 hd1 hd2 hd3 hl1 hl2 he e hpass
    have het : (s.atTime t).comp.views[v].enabled = false := he
    rw [exec_of_idle (t := t) (c := .configureView (word v.val) w h d a l) rfl rfl nofun hi, dispatch, finishCommand_plain,
      configureView_done (viewRange_ok ⟨hw1, hw2⟩ ⟨hh1, hh2⟩ ⟨hd1, hd2, hd3⟩ ⟨hl1, hl2⟩) het hpass]
    rfl
  case refused =>
    intro t q w h d a l v s hi refused field ok1 ok2 ok3 ok4
    have key : ∀ r, cmdConfigureView (word v.val) w h d a l (s.atTime t) = (s.atTime t, r) → refused r := fun r hr => by
      show exec _ s = _
      rw [exec_of_idle (t := t) (c := .configureView (word v.val) w h d a l) rfl rfl nofun hi, dispatch,
        finishCommand_plain, hr]
    refine ⟨fun h1 => ?_, fun h1 h2 => ?_, fun h1 h2 h3 => ?_, fun h1 h2 h3 h4 => ?_,
      fun h1 h2 h3 h4 => ⟨fun he => ?_, fun he r hr => ?_⟩⟩
    · exact key _ (configureView_field (viewRange_width h1))
    · exact key _ (configureView_field (viewRange_height h1 h2))
    · exact key _ (configureView_field (viewRange_stride h1 h2 h3))
    · exact key _ (configureView_field (viewRange_timeout h1 h2 h3 h4))
    · exact key _ (configureView_inUse (viewRange_ok h1 h2 h3 h4) he)
    · exact key _ (configureView_window (viewRange_ok h1 h2 h3 h4) he hr)

/-! ### ENABLE_VIEW and DISABLE_VIEW (R127, R128) -/

theorem viewInTable_iff (s : State) (v : ViewId) :
    s.viewInTable v = true ↔ ∃ (k : EntryId) (r : ReadEntry), s.comp.table[k].read = some r ∧ r.view = v := by
  simp only [State.viewInTable, List.any_eq_true, Option.any_eq_true, beq_iff_eq, Vector.mem_toList_iff]
  constructor
  · rintro ⟨e, he, r, hr, hv⟩
    obtain ⟨k, hk, rfl⟩ := Vector.mem_iff_getElem.1 he
    exact ⟨⟨k, hk⟩, r, hr, hv⟩
  · rintro ⟨k, r, hr, hv⟩
    exact ⟨s.comp.table[k], Vector.getElem_mem _, r, hr, hv⟩

/-- What the closing of a record leaves of a module's slots (R43, R135). -/
theorem closeAny_slots (s : State) (v : ViewId) (f : FrameName) (m : ModuleId) :
    (s.closeAny v f).store.mods[m] =
      if (s.comp.views[v].frame f).isSome then s.store.mods[m].unhold (.frame v f) else s.store.mods[m] := by
  unfold State.closeAny
  split
  · show (mapAll (·.unhold (.frame v f)) s.store.mods)[m] = _
    rw [Fin.getElem_fin, mapAll_getElem]
    rfl
  · rfl

/-- The closing of a record empties it and changes no block but the slots' holders. -/
theorem closeAny_eq (s : State) (v : ViewId) (f : FrameName) :
    s.closeAny v f =
      { s with
        store := (s.closeAny v f).store
        comp := { s.comp with views := s.comp.views.set v (s.comp.views[v].setFrame f none) } } := by
  unfold State.closeAny
  split
  · rfl
  · rename_i h
    have hnone : s.comp.views[v].frame f = none := Option.not_isSome_iff_eq_none.1 h
    have hset : s.comp.views[v].setFrame f none = s.comp.views[v] := by
      cases f
      · exact congrArg (fun x => { s.comp.views[v] with frameA := x }) hnone.symm
      · exact congrArg (fun x => { s.comp.views[v] with frameB := x }) hnone.symm
    rw [hset, Fin.getElem_fin, Vector.set_getElem_self]

theorem frames_closed (w : View) : ((w.setFrame .a none).setFrame .b none) = { w with frameA := none, frameB := none } := rfl

/-- A view taken out of service: its records closed, and nothing else changed but holders (R128). -/
theorem disabled_eq (s : State) (v : ViewId) :
    ((s.closeAny v .a).closeAny v .b).modView v (fun w => { w with enabled := false }) =
      { s with
        store := ((s.closeAny v .a).closeAny v .b).store
        comp :=
          { s.comp with
            views := s.comp.views.set v { s.comp.views[v] with enabled := false, frameA := none, frameB := none } } } := by
  rw [closeAny_eq (s.closeAny v .a) v .b]
  dsimp only [State.modView, upd]
  rw [closeAny_eq s v .a]
  simp [View.setFrame]

theorem closeAny_order (s : State) (v : ViewId) :
    ((s.closeAny v .a).closeAny v .b).store.closeOrder = s.store.closeOrder := by
  unfold State.closeAny
  split <;> split <;> rfl

/-- Closing one record leaves the other. -/
theorem closeAny_other (s : State) (v : ViewId) :
    ((s.closeAny v .a).comp.views[v].frame .b) = s.comp.views[v].frame .b := by
  rw [closeAny_eq]
  simp [View.setFrame, View.frame]

/-- Settles O38: each branch of the two commands; the closing by `closeAny_eq` and `closeAny_slots`. -/
theorem enableAndDisableViewTake : Obligations.EnableAndDisableViewTake := by
  refine ⟨fun t q v s hi => ?enable, fun t q v s hi => ?disable⟩
  case enable =>
    rw [exec_of_idle (t := t) (c := .enableView (word v.val)) rfl rfl nofun hi, dispatch, finishCommand_plain,
      cmdEnableView, viewArg_word]
    dsimp only
    rw [State.atTime_comp]
    refine ⟨fun e hen hc hw => ?_, fun hen => ?_, fun hen hc => ?_⟩
    · have hact : upd s.path.viewWindows v Window.activate = s.path.viewWindows.set v (.active e) := by
        rw [upd, hw]; rfl
      rw [if_neg (by rw [hen]; decide), if_neg (by rw [hc]; decide)]
      dsimp only [done, State.modView, State.atTime]
      rw [hact]
      rfl
    · rw [if_pos hen]
      rfl
    · rw [if_neg (by rw [hen]; decide), if_pos (by rw [hc]; rfl)]
      rfl
  case disable =>
    rw [exec_of_idle (t := t) (c := .disableView (word v.val)) rfl rfl nofun hi, dispatch, finishCommand_plain,
      cmdDisableView, viewArg_word]
    dsimp only
    rw [State.atTime_comp]
    refine ⟨fun e hen hno hw => ⟨(((s.atTime t).closeAny v .a).closeAny v .b).store, ?takes, ?order, fun m => ?slots⟩,
      fun hen hr => ?used, fun hen => ?disabled⟩
    case takes =>
      have hfree : ¬(s.atTime t).viewInTable v = true := by
        rw [viewInTable_iff]
        rintro ⟨k, r, hk, hv⟩
        exact hno k r hk hv
      have hdeact : upd s.path.viewWindows v Window.deactivate = s.path.viewWindows.set v (.configured e) := by
        rw [upd, hw]; rfl
      rw [if_neg (by rw [hen]; decide), if_neg hfree, disabled_eq]
      dsimp only [done, State.atTime]
      rw [hdeact]
    case order => exact closeAny_order ..
    case slots =>
      rw [closeAny_slots, closeAny_slots, closeAny_other]
      rfl
    case used =>
      rw [if_neg (by rw [hen]; decide), if_pos ((viewInTable_iff (s.atTime t) v).2 hr)]
      rfl
    case disabled =>
      rw [if_pos (by rw [hen]; rfl)]
      rfl

end Sys2Proof.Machine
end

section
/-! Upstream traffic (R6 to R18): classes, refusals, forwarding and the stall; the grant of a fill slot (R44), memory's
answers (R17, R169), liveness expiry (R33) and the pair test (R112). -/

namespace Sys2Proof.Machine

-- Declaration after declaration: elaborated side by side, those of the joined text need more memory than the check has.
set_option Elab.async false

/-! ### The class of a byte (R6) -/

theorem coversActive_iff (w : Window) (a : Nat) :
    w.coversActive a = true ↔ ∃ e, w = .active e ∧ e.start ≤ a ∧ a < e.start + e.size := by
  cases w with
  | unconfigured => exact iff_of_false nofun nofun
  | configured e => exact iff_of_false nofun nofun
  | active e =>
    show e.contains a = true ↔ _
    rw [contains_iff]
    exact ⟨fun h => ⟨e, rfl, h⟩, fun ⟨_, he, h⟩ => by cases he; exact h⟩

theorem insideCarve_byte (cfg : Config) (a : Nat) :
    insideCarve cfg a 1 = true ↔ cfg.carveBase ≤ a ∧ a < cfg.carveBase + cfg.carveSize := by simp [insideCarve]

/-- Whether a byte lies in the range that a class names. -/
def State.liesIn (s : State) (a : Nat) : ByteClass → Prop
  | .capture m => ∃ e, s.path.captureWindows[m] = .active e ∧ e.start ≤ a ∧ a < e.start + e.size
  | .view v => ∃ e, s.path.viewWindows[v] = .active e ∧ e.start ≤ a ∧ a < e.start + e.size
  | .control => s.cfg.controlPage ≤ a ∧ a < s.cfg.controlPage + 4096
  | .slot m i => ∃ y, s.store.mods[m].slots[i]? = some y ∧ y.base ≤ a ∧ a < y.base + y.size
  | .plain => False
  | .outside => False

theorem slotAt_some {s : State} {a i : Nat} {m : ModuleId} (h : s.slotAt a = some (m, i)) : s.liesIn a (.slot m i) := by
  obtain ⟨n, -, hn⟩ := List.exists_of_findSome?_eq_some h
  obtain ⟨j, hj, he⟩ := Option.map_eq_some_iff.1 hn
  cases he
  obtain ⟨hlt, hc, -⟩ := List.findIdx?_eq_some_iff_getElem.1 hj
  exact ⟨_, List.getElem?_eq_getElem hlt, (contains_iff ..).1 hc⟩

theorem slotAt_none {s : State} {a : Nat} (h : s.slotAt a = none) (m : ModuleId) (i : Nat) :
    ¬s.liesIn a (.slot m i) := by
  rintro ⟨y, hy, hc⟩
  have hm := List.findSome?_eq_none_iff.1 h m (mem_allModules m)
  rw [Option.map_eq_none_iff, ModuleSlots.slotAt, List.findIdx?_eq_none_iff] at hm
  have hno := hm y (List.mem_of_getElem? hy)
  rw [← Bool.not_eq_true, contains_iff] at hno
  exact hno hc

/-- A byte has the class of a range it lies in; where it lies in none it is plain or outside. -/
theorem classAt_spec (s : State) (a : Nat) :
    s.liesIn a (s.classAt a)
      ∨ (∀ c, ¬s.liesIn a c) ∧ s.classAt a = if insideCarve s.cfg a 1 then .plain else .outside := by
  unfold State.classAt
  split
  · rename_i m hm
    exact .inl ((coversActive_iff ..).1 (by simpa using List.find?_some hm))
  · rename_i hm
    split
    · rename_i v hv
      exact .inl ((coversActive_iff ..).1 (by simpa using List.find?_some hv))
    · rename_i hv
      split
      · rename_i hc
        exact .inl ((contains_iff ..).1 hc)
      · rename_i hc
        split
        · rename_i m i hi
          exact .inl (slotAt_some hi)
        · rename_i hi
          refine .inr ⟨fun c => ?_, rfl⟩
          cases c with
          | capture m => exact fun h => List.find?_eq_none.1 hm m (mem_allModules m) ((coversActive_iff ..).2 h)
          | view v => exact fun h => List.find?_eq_none.1 hv v (mem_allViews v) ((coversActive_iff ..).2 h)
          | control => exact fun h => hc ((contains_iff (controlExtent s.cfg) a).2 h)
          | slot m i => exact slotAt_none hi m i
          | plain => exact not_false
          | outside => exact not_false

/-! ### What stalls (R18) -/

theorem isViewClass_iff (c : Option ByteClass) : isViewClass c = true ↔ ∃ v, c = some (.view v) := by
  match c with
  | some (.view v) => exact iff_of_true rfl ⟨v, rfl⟩
  | none | some (.capture _) | some .control | some (.slot ..) | some .plain | some .outside =>
    exact iff_of_false nofun nofun

theorem mem_allEntries (e : EntryId) : e ∈ allEntries := by revert e; decide

theorem freeEntryId_none (s : State) : s.freeEntryId = none ↔ ∀ e : EntryId, s.comp.table[e].read ≠ none := by
  unfold State.freeEntryId
  rw [List.find?_eq_none]
  simp only [Option.isNone_iff_eq_none]
  exact ⟨fun h e => h e (mem_allEntries e), fun h e _ => h e⟩

theorem stalls_iff (s : State) (y : Transaction) : s.stalls y = true ↔
    isWrite y = false ∧ (∃ v, s.classify y = some (.view v)) ∧ ∀ e : EntryId, s.comp.table[e].read ≠ none := by
  unfold State.stalls
  rw [Bool.and_eq_true, Bool.and_eq_true, Bool.not_eq_true', isViewClass_iff, Option.isNone_iff_eq_none,
    freeEntryId_none, and_assoc]

/-- What is not of a view's class does not stall. -/
theorem stalls_of_class {s : State} {y : Transaction} (h : ∀ v, s.classify y ≠ some (.view v)) : s.stalls y = false := by
  rw [← Bool.not_eq_true, stalls_iff]
  rintro ⟨-, ⟨v, hv⟩, -⟩
  exact h v hv

/-- Settles O39: `stalls_iff`, and the unfolding of `drain` at its first transaction. -/
theorem stallHoldsThePort : Obligations.StallHoldsThePort := by
  refine ⟨fun y s => stalls_iff s y, fun t x y ys s hlo hhi hw hst => ?_, fun y ys s hw hst => ?_⟩
  · have hr : (s.atTime t).routed x = true := (routed_iff ..).mpr ⟨hlo, hhi⟩
    have hst' : (s.atTime t).stalls y = true := hst
    have hw' : (s.atTime t).path.waiting ++ [x] = y :: ys := hw
    rw [exec_upstreamTransaction, State.arrive, if_pos hr, hw', drain, if_pos hst']
    rfl
  · rw [State.finish, hw, drain, if_neg (by rw [hst]; decide)]

/-! ### Refused and forwarded transactions (R7 to R16) -/

/-- An arrival at an idle port that does not stall is accepted at the end of its requester's queue. -/
theorem exec_of_class (t : Time) {s : State} {x : Transaction} {c : Option ByteClass} (hq : s.path.waiting = [])
    (hlo : s.cfg.carveBase ≤ x.address.toNat) (hhi : x.address.toNat < s.cfg.carveBase + s.cfg.carveSize)
    (hs : s.stalls x = false) (hc : s.classify x = c) :
    exec (.upstreamTransaction t x) s =
      .next (((s.atTime t).enqueue x.requester).acceptClass s.serial x c).deliver := by
  rw [exec_of_accepted t hq hlo hhi hs, ← hc]
  rfl

/-- The slot guard (R14). -/
theorem guarded_iff (y : Slot) :
    y.guarded = true ↔ y.state = .filling ∨ (∃ r, y.state = .ready r) ∧ y.holders ≠ noHolders := by
  unfold Slot.guarded
  rw [Bool.or_eq_true, Bool.and_eq_true, y.isFilling_iff, y.isReady_iff, Bool.not_eq_true', ← Bool.not_eq_true,
    HolderSet.isEmpty_iff]

/-- Settles O40: each class's branch of `State.acceptClass`. -/
theorem refusedTransactions : Obligations.RefusedTransactions := by
  intro t x s hq hlo hhi refused
  refine ⟨fun hspan => ?span, fun hx m hc hown => ?capture, fun hx v hc => ?view, fun hx m i y hc hy hg => ?slot⟩
  case span =>
    have hc : s.classify x = none := if_neg hspan
    rw [exec_of_class t hq hlo hhi (stalls_of_class fun v h => nomatch hc.symm.trans h) hc]
    rfl
  case capture =>
    have hown' : x.requester ≠ ((s.atTime t).enqueue x.requester).trackers[m].record.owner := hown
    rw [exec_of_class t hq hlo hhi (stalls_of_isWrite hx s) hc, State.acceptClass, if_pos hx, State.captureWrite,
      if_neg hown']
    rfl
  case view =>
    rw [exec_of_class t hq hlo hhi (stalls_of_isWrite hx s) hc, State.acceptClass, if_pos hx]
    rfl
  case slot =>
    rw [exec_of_class t hq hlo hhi (stalls_of_isWrite hx s) hc, State.acceptClass, State.slotAccess, if_pos]
    · rfl
    · rw [hx, Bool.true_and]
      show s.store.mods[m].slots[i]?.elim false Slot.guarded = true
      rw [hy]
      exact (guarded_iff y).2 hg

theorem slotBase_of_getElem? {s : State} {m : ModuleId} {i : Nat} {y : Slot} (h : s.store.mods[m].slots[i]? = some y) :
    s.slotBase m i = y.base := by
  rw [State.slotBase, h]
  rfl

section
variable {s : State} {m : ModuleId} {off : Nat}

theorem captureRead_slot {i : Nat} (h : off < s.trackers[m].record.area) (hs : s.captureReadSlot m = some i) (place : Nat)
    (x : Transaction) : s.captureRead m place off x = s.forward place (s.slotBase m i + off) x := by
  rw [State.captureRead, if_pos h, hs]

theorem captureRead_empty (h : s.trackers[m].record.area ≤ off ∨ s.captureReadSlot m = none) (place : Nat)
    (x : Transaction) : s.captureRead m place off x = s.answer place (.ok (zeros x.len)) := by
  rw [State.captureRead]
  split
  · rename_i ha
    rw [h.resolve_left (Nat.not_le.2 ha)]
  · rfl

end

/-- Settles O41: `classAt_spec`, `classify_eq_some`, and each class's branch of `State.acceptClass`. -/
theorem forwardedTransactions : Obligations.ForwardedTransactions := by
  refine ⟨fun s a => ?classes, fun x c s => classify_eq_some s x c, fun t x s hq hlo hhi => ?forwards⟩
  case classes =>
    intro within lies
    have hlies : ∀ c, lies c ↔ s.liesIn a c := fun c => by cases c <;> exact Iff.rfl
    simp only [hlies]
    refine ⟨fun c hc huniq => ?_, fun hno hin => ?_, fun hno hout => ?_⟩
    · obtain h | ⟨h, -⟩ := classAt_spec s a
      · exact huniq _ h
      · exact absurd hc (h c)
    · obtain h | ⟨-, h⟩ := classAt_spec s a
      · exact absurd h (hno _)
      · rw [h, if_pos ((insideCarve_byte ..).2 hin)]
    · obtain h | ⟨-, h⟩ := classAt_spec s a
      · exact absurd h (hno _)
      · rw [h, if_neg fun h' => hout ((insideCarve_byte ..).1 h')]
  case forwards =>
    intro s1 forwarded zeroed
    have key : ∀ c, (∀ v, c ≠ .view v) → s.classify x = some c →
        exec (.upstreamTransaction t x) s = .next (s1.acceptClass s.serial x (some c)).deliver := fun c hv hc =>
      exec_of_class t hq hlo hhi (stalls_of_class fun v h => hv v (Option.some.inj (hc.symm.trans h))) hc
    refine ⟨fun hc => key .plain nofun hc, fun hc hx => ?page, fun m i y hc hy hw => ?extent, fun m e hc hwin hx => ?read⟩
    case page =>
      show exec _ s = _
      rw [key .control nofun hc, State.acceptClass, State.controlAccess, if_neg (by rw [hx]; decide)]
    case extent =>
      show exec _ s = _
      rw [key (.slot m i) nofun hc, State.acceptClass, State.slotAccess, if_neg]
      rw [Bool.and_eq_true]
      rintro ⟨hx, hg⟩
      have hg' : s.store.mods[m].slots[i]?.elim false Slot.guarded = true := hg
      rw [hy] at hg'
      obtain hf | ⟨⟨r, hr⟩, hh⟩ := (guarded_iff y).1 hg' <;> obtain hw | ⟨⟨r', hr'⟩, hh'⟩ := hw hx
      · rw [hf] at hw; cases hw
      · rw [hf] at hr'; cases hr'
      · rw [hr] at hw; cases hw
      · exact hh hh'
    case read =>
      intro off slot
      have hread : exec (.upstreamTransaction t x) s = .next (s1.captureRead m s.serial off x).deliver := by
        have hwin1 : s1.path.captureWindows[m] = .active e := hwin
        rw [key (.capture m) nofun hc, State.acceptClass, if_neg (by rw [hx]; decide), start_of_active hwin1]
      have hslot : s1.captureReadSlot m = slot := rfl
      refine ⟨fun i y harea hs hy => ?_, fun _ hs => ?_, fun harea => ?_⟩
      · have hbase : s1.slotBase m i = y.base := slotBase_of_getElem? hy
        show exec _ s = _
        rw [hread, captureRead_slot (s := s1) harea (hslot.trans hs), hbase]
      · exact hread.trans (by rw [captureRead_empty (s := s1) (.inr (hslot.trans hs))])
      · exact hread.trans (by rw [captureRead_empty (s := s1) (.inl harea)])

/-! ### The grant of a fill slot (R44) -/

/-- Settles O42: the first FREE slot, else the first slot of the ready list without a holder. -/
theorem grantRule : Obligations.GrantRule := by
  intro ms
  refine ⟨fun i y hi hy hl => ?free, fun hno => ?ready⟩
  case free =>
    have hfind : ms.slots.findIdx? Slot.isFree = some i := by
      obtain ⟨hlt, rfl⟩ := List.getElem?_eq_some_iff.1 hi
      refine List.findIdx?_eq_some_iff_getElem.2 ⟨hlt, (Slot.isFree_iff _).2 hy, fun j hj => ?_⟩
      rw [Slot.isFree_iff]
      exact hl j _ hj (List.getElem?_eq_getElem _)
    rw [ModuleSlots.grant, hfind]
  case ready =>
    have hfind : ms.slots.findIdx? Slot.isFree = none := by
      rw [List.findIdx?_eq_none_iff]
      intro y hy
      rw [← Bool.not_eq_true, Slot.isFree_iff]
      exact hno y hy
    have hheld : ∀ j, (∀ y, ms.slots[j]? = some y → y.holders ≠ noHolders) → ms.recyclable j = false := by
      intro j hj
      unfold ModuleSlots.recyclable
      cases hs : ms.slots[j]? with
      | none => rfl
      | some y =>
        show y.unheld = false
        rw [← Bool.not_eq_true, Slot.unheld_iff]
        exact fun h => hj y hs h.2
    have hgrant : ms.grant = ms.ready.find? ms.recyclable := by rw [ModuleSlots.grant, hfind]
    rw [hgrant]
    refine ⟨fun older i newer hr hi hold => ?_, fun hall => ?_⟩
    · obtain ⟨y, r, hy, hst, hh⟩ := hi
      have hrec : ms.recyclable i = true := by
        rw [ModuleSlots.recyclable, hy]
        exact (Slot.unheld_iff y).2 ⟨⟨r, hst⟩, hh⟩
      rw [List.find?_eq_some_iff_append]
      exact ⟨hrec, older, newer, hr, fun j hj => by rw [hheld j (hold j hj)]; rfl⟩
    · rw [List.find?_eq_none]
      intro j hj
      rw [hheld j (hall j hj)]
      exact Bool.false_ne_true

/-! ### Memory's answers (R17, R169) -/

theorem memoryAnswer_of_find {s : State} {place : Nat} {d : Downstream}
    (h : s.path.downstream.find? (·.place == place) = some d) (a : MemAnswer) :
    s.memoryAnswer place a =
      (({ s with path := { s.path with downstream := s.path.downstream.filter (·.place != place) } } : State).answer place
        (d.answerOf a)).deliver := by
  rw [State.memoryAnswer, h]

/-- Settles O50: a read takes its data, a write none; the Agent's writes take only the note. -/
theorem memoryAnswersAreTaken : Obligations.MemoryAnswersAreTaken := by
  refine ⟨fun t place d s hd => ?_, fun t n err w s hw hn => ?_⟩
  · intro answered
    have hexec : ∀ a, exec (.memoryAnswer t place a) s = .next (answered (d.answerOf a)) := fun a => by
      show Host.Outcome.next ((s.atTime t).memoryAnswer place a) = _
      rw [memoryAnswer_of_find (s := s.atTime t) hd]
      rfl
    refine ⟨fun p hb => ?_, fun p hb => ?_, hexec _⟩
    · rw [hexec, Downstream.answerOf, hb]
      rfl
    · rw [hexec, Downstream.answerOf, if_neg (by rwa [Option.isNone_iff_eq_none])]
  · have hset : (s.agent.writes.modify n fun w => { w with answered := w.answered.or (some err) })
        = s.agent.writes.set n { w with answered := some err } := by
      obtain ⟨hlt, rfl⟩ := List.getElem?_eq_some_iff.1 hw
      rw [List.modify_eq_set_getElem? , hw]
      simp [hn]
    show Host.Outcome.next ((s.atTime t).agentWriteAnswer n err) = _
    rw [State.agentWriteAnswer]
    dsimp only [State.atTime]
    rw [hset]

/-! ### Liveness (R33) -/

theorem livenessExpiry_expired {s : State} {m : ModuleId} {d : Time} (hd : s.trackers[m].deadline = some d)
    (ht : d.toNat ≤ s.time.toNat) :
    s.livenessExpiry m = ((s.returnFill m).modTracker m Tracker.expire).raise
      (moduleRaise .moduleStale m s.trackers[m].record.lastTrailer 0) := by
  rw [State.livenessExpiry, hd]
  exact if_pos ht

theorem livenessExpiry_early {s : State} {m : ModuleId} {d : Time} (hd : s.trackers[m].deadline = some d)
    (ht : s.time.toNat < d.toNat) : s.livenessExpiry m = s := by
  rw [State.livenessExpiry, hd]
  exact if_neg (Nat.not_le.2 ht)

/-- What an expiry leaves, by the slot and the capture state it finds. -/
theorem livenessExpiry_eq {s : State} {m : ModuleId} {d : Time} {ms : ModuleSlots} (hd : s.trackers[m].deadline = some d)
    (ht : d.toNat ≤ s.time.toNat) (hms : s.trackers[m].capture.fillSlot.elim s.store.mods[m] s.store.mods[m].giveBack = ms)
    (hc : (if s.trackers[m].capture.isOpen then Capture.idle else s.trackers[m].capture) = .idle) :
    s.livenessExpiry m =
      ({ s with
        trackers := s.trackers.set m { s.trackers[m] with capture := .idle, deadline := none }
        store := { s.store with mods := s.store.mods.set m ms } } : State).raise
        { kind := .moduleStale, subject := m.val, second := 0, frame := s.trackers[m].record.lastTrailer, reason := 0 } := by
  rw [livenessExpiry_expired hd ht, ← hms]
  conv_rhs => rw [← hc]
  rfl

/-- Settles O51: each capture state at an expiry by `livenessExpiry_eq`. -/
theorem livenessExpiryTakes : Obligations.LivenessExpiryTakes := by
  intro t m d s hd
  refine ⟨fun ht => ?expired, fun ht => ?early⟩
  case expired =>
    intro stale
    have key : ∀ ms, s.trackers[m].capture.fillSlot.elim s.store.mods[m] s.store.mods[m].giveBack = ms →
        (if s.trackers[m].capture.isOpen then Capture.idle else s.trackers[m].capture) = .idle →
        exec (.livenessExpiry t m) s = .next (stale .idle ms) := fun ms hms hc => by
      show Host.Outcome.next ((s.atTime t).livenessExpiry m) = _
      rw [livenessExpiry_eq (s := s.atTime t) hd ht hms hc]
      rfl
    refine ⟨fun i acc hc => key _ ?_ ?_, fun hc => key _ ?_ ?_, fun hc => key _ ?_ ?_⟩ <;> rw [hc] <;> rfl
  case early =>
    show Host.Outcome.next ((s.atTime t).livenessExpiry m) = _
    rw [livenessExpiry_early (s := s.atTime t) hd ht]

/-! ### The pair test (R112) -/

theorem succeeds_iff (r : RegResult) (g : Word) :
    r.succeeds g = true ↔ r.outcome.failure = none ∧ r.generation = g := by
  rw [RegResult.succeeds, Bool.and_eq_true, Option.isNone_iff_eq_none, beq_iff_eq]

theorem usable_iff (s : State) (m : ModuleId) :
    s.usable m = true ↔ s.trackers[m].deadline.isSome = true ∧ s.ctl.mods[m].resetMark = false := by
  rw [State.usable, Bool.and_eq_true, Bool.not_eq_true']
  rfl

theorem withinTolerance_iff (a b : Time) (d : Nat) :
    withinTolerance a b d = true ↔ a.toNat ≤ b.toNat + d ∧ b.toNat ≤ a.toNat + d := by
  rw [withinTolerance, decide_eq_true_eq, absDiff]
  split <;> omega

section
variable {s : State} {m sm im : ModuleId}

/-- With no success at hand the close of S or I looks at the pair. -/
theorem lookForPair_of_preparing (hx : s.reg.context = none) (hp : s.ctl.phase = .preparing sm im) (hm : m = sm ∨ m = im)
    (hl : ∀ r, s.reg.last = some r → r.outcome.failure ≠ none ∨ r.generation ≠ s.ctl.generation) :
    s.lookForPair m =
      (s.pairContext sm im).elim s fun c => { s with reg := { s.reg with context := some c } } := by
  have hlast : s.reg.last.all (fun r => !r.succeeds s.ctl.generation) = true := by
    rw [Option.all_eq_true]
    intro r hr
    rw [Bool.not_eq_true', ← Bool.not_eq_true, succeeds_iff, not_and_or]
    exact hl r hr
  rw [State.lookForPair, hx, hp]
  dsimp only
  rw [if_pos ⟨hm, hlast⟩]
  cases s.pairContext sm im <;> rfl

/-- A close that finds no pair changes nothing. -/
theorem lookForPair_of_none (h : ∀ sm im, s.ctl.phase = .preparing sm im → s.pairContext sm im = none) :
    s.lookForPair m = s := by
  unfold State.lookForPair
  split
  · rename_i sm im _ hp
    rw [h sm im hp]
    split <;> rfl
  · rfl

theorem pairContext_of_frame (h : s.store.mods[sm].newestRecord = none ∨ s.store.mods[im].newestRecord = none) :
    s.pairContext sm im = none := by
  unfold State.pairContext
  obtain h | h := h
  · rw [h]
  · rw [h]
    cases s.store.mods[sm].newestRecord <;> rfl

section
variable {fs fi : FrameRecord}

theorem pairContext_of_profile (hs : s.store.mods[sm].newestRecord = some fs)
    (hi : s.store.mods[im].newestRecord = some fi) (h : fs.profile = none ∨ fi.profile = none) :
    s.pairContext sm im = none := by
  unfold State.pairContext
  rw [hs, hi]
  dsimp only
  obtain h | h := h
  · rw [h]
  · rw [h]
    cases fs.profile <;> rfl

theorem pairContext_of_profiles {ps pi : Profile} (hs : s.store.mods[sm].newestRecord = some fs)
    (hi : s.store.mods[im].newestRecord = some fi) (hps : fs.profile = some ps) (hpi : fi.profile = some pi) :
    s.pairContext sm im =
      if ps.rect.generation = s.ctl.generation ∧ pi.rect.generation = s.ctl.generation
          ∧ s.usable sm ∧ s.usable im ∧ withinTolerance fs.midpoint fi.midpoint s.ctl.params.tolerance then
        some
          { serving := sm, incoming := im, generation := s.ctl.generation, quality := s.ctl.params.quality
            servingProfile := ps, incomingProfile := pi, servingFrame := fs.frame, incomingFrame := fi.frame }
      else none := by
  unfold State.pairContext
  rw [hs, hi]
  dsimp only
  rw [hps, hpi]

end
end

/-- Settles O52: the conditions of a pair by `pairContext_of_profiles`, and each way to miss one. -/
theorem pairTestTakes : Obligations.PairTestTakes := by
  intro m s
  refine ⟨fun sm im fs fi ps pi hx hp hm hl hs hi hps hpi => ?pair, fun sm im hp h => ?frame,
    fun sm im fs fi hp hs hi h => ?profile, fun hx => ?busy, fun h => ?other, fun hr => ?success⟩
  case pair =>
    intro meets
    have hmeets : (ps.rect.generation = s.ctl.generation ∧ pi.rect.generation = s.ctl.generation
        ∧ s.usable sm = true ∧ s.usable im = true
        ∧ withinTolerance fs.midpoint fi.midpoint s.ctl.params.tolerance = true) ↔ meets := by
      rw [usable_iff, usable_iff, withinTolerance_iff]
      show _ ↔ _ ∧ _ ∧ _ ∧ _ ∧ _ ∧ _ ∧ _ ∧ _
      tauto
    rw [lookForPair_of_preparing hx hp hm hl, pairContext_of_profiles hs hi hps hpi]
    exact ⟨fun h => by rw [if_pos (hmeets.2 h)]; rfl, fun h => by rw [if_neg (hmeets.not.2 h)]; rfl⟩
  case frame =>
    refine lookForPair_of_none fun a b hab => ?_
    cases hp.symm.trans hab
    exact pairContext_of_frame h
  case profile =>
    refine lookForPair_of_none fun a b hab => ?_
    cases hp.symm.trans hab
    exact pairContext_of_profile hs hi h
  case busy =>
    obtain ⟨c, hc⟩ := hx
    rw [State.lookForPair, hc]
  case other =>
    unfold State.lookForPair
    split
    · rename_i sm im _ hp
      exact if_neg fun h' => h'.1.elim (h sm im hp).1 (h sm im hp).2
    · rfl
  case success =>
    obtain ⟨r, hr, hf, hg⟩ := hr
    have hlast : ¬s.reg.last.all (fun r => !r.succeeds s.ctl.generation) = true := by
      rw [hr, Option.all_some, Bool.not_eq_true', (succeeds_iff ..).2 ⟨hf, hg⟩]
      decide
    unfold State.lookForPair
    split
    · exact if_neg fun h' => hlast h'.2
    · rfl

end Sys2Proof.Machine
end

section
/-! Counted pixels and profiles (R24, R108, R109), an owner's pixel write (R9, R10, R23, R25), and well-formed trailers
(R26 to R32, R41, R45). -/

namespace Sys2Proof.Machine

-- Declaration after declaration: elaborated side by side, those of the joined text need more memory than the check has.
set_option Elab.async false

/-! ### Whole words and counted pixels (R24) -/

theorem mem_wholeWords (off len o : Nat) : o ∈ wholeWords off len ↔ o % 4 = 0 ∧ off ≤ o ∧ o + 4 ≤ off + len := by
  simp only [wholeWords, List.mem_filter, List.mem_map, List.mem_range, decide_eq_true_eq]
  constructor
  · rintro ⟨⟨i, hi, rfl⟩, h⟩
    omega
  · rintro ⟨h4, hlo, hhi⟩
    exact ⟨⟨(o - (off + 3) / 4 * 4) / 4, by omega, by omega⟩, hhi⟩

theorem wholeWords_pairwise (off len : Nat) : (wholeWords off len).Pairwise (· < ·) := by
  refine List.Pairwise.filter _ (List.Pairwise.map _ (fun a b h => ?_) List.pairwise_lt_range)
  exact Nat.add_lt_add_left (Nat.mul_lt_mul_of_pos_left h (by decide)) _

section
variable {r : ModuleRecord} {off : Nat} {bytes : List Byte} {p : CountedPixel} {o : Nat}

theorem countedAt_eq_some : countedAt r off bytes o = some p ↔
    p.row < r.height ∧ p.col < r.width ∧ p.row = o / r.stride ∧ p.col = o % r.stride / 4
      ∧ p.luma = fieldAt bytes (o - off) 4 % 1024 := by
  unfold countedAt
  split
  · rename_i h
    rw [Option.some.injEq]
    constructor
    · rintro rfl
      exact ⟨h.1, h.2, rfl, rfl, rfl⟩
    · rintro ⟨-, -, h1, h2, h3⟩
      rw [← h1, ← h2, ← h3]
  · rename_i h
    refine iff_of_false nofun ?_
    rintro ⟨h1, h2, h3, h4, -⟩
    exact h ⟨h3 ▸ h1, h4 ▸ h2⟩

/-- With rows of whole words a word's offset is that of its row and column. -/
theorem offset_of_word {d : Nat} (hd : d % 64 = 0) (ho : o % 4 = 0) : o / d * d + 4 * (o % d / 4) = o := by
  have hdiv : 4 ∣ o % d := (Nat.dvd_mod_iff (by omega)).2 (by omega)
  rw [Nat.mul_div_cancel' hdiv, Nat.div_add_mod']

/-- A column below the width lies inside its row. -/
theorem word_of_offset {d row col : Nat} (h : 4 * col < d) :
    (row * d + 4 * col) / d = row ∧ (row * d + 4 * col) % d / 4 = col := by
  have hd : 0 < d := by omega
  rw [Nat.mul_comm row d, Nat.mul_add_div hd, Nat.div_eq_of_lt h, Nat.mul_add_mod, Nat.mod_eq_of_lt h]
  omega

/-- The pixels counted of a write. -/
theorem mem_countedPixels (hd : r.stride % 64 = 0) (hw : 4 * r.width ≤ r.stride) : p ∈ countedPixels r off bytes ↔
    p.row < r.height ∧ p.col < r.width ∧ off ≤ p.row * r.stride + 4 * p.col
      ∧ p.row * r.stride + 4 * p.col + 4 ≤ off + bytes.length
      ∧ p.luma = fieldAt bytes (p.row * r.stride + 4 * p.col - off) 4 % 1024 := by
  simp only [countedPixels, List.mem_filterMap, mem_wholeWords, countedAt_eq_some]
  constructor
  · rintro ⟨o, ⟨h4, hlo, hhi⟩, h1, h2, h3, hc, hl⟩
    have ho : p.row * r.stride + 4 * p.col = o := by rw [h3, hc, offset_of_word hd h4]
    rw [ho]
    exact ⟨h1, h2, hlo, hhi, hl⟩
  · rintro ⟨h1, h2, hlo, hhi, hl⟩
    obtain ⟨e1, e2⟩ := word_of_offset (row := p.row) (show 4 * p.col < r.stride by omega)
    have hmod : (p.row * r.stride + 4 * p.col) % 4 = 0 := by
      have h4 : 4 ∣ p.row * r.stride := Dvd.dvd.mul_left (by omega) _
      omega
    exact ⟨_, ⟨hmod, hlo, hhi⟩, h1, h2, e1.symm, e2.symm, hl⟩

theorem countedPixels_pairwise (hd : r.stride % 64 = 0) : (countedPixels r off bytes).Pairwise fun a b =>
    a.row * r.stride + 4 * a.col < b.row * r.stride + 4 * b.col := by
  have hword : ∀ o p, o ∈ wholeWords off bytes.length → countedAt r off bytes o = some p →
      p.row * r.stride + 4 * p.col = o := fun o p ho hp => by
    obtain ⟨-, -, h3, h4, -⟩ := countedAt_eq_some.1 hp
    rw [h3, h4, offset_of_word hd ((mem_wholeWords ..).1 ho).1]
  refine List.pairwise_filterMap.2 ((wholeWords_pairwise off bytes.length).imp_of_mem fun {a b} ha hb hab p hp q hq => ?_)
  rw [hword a p ha hp, hword b q hb hq]
  exact hab

end

/-! ### Profiles (R108, R109) -/

theorem inside_iff (r : Rect) (p : CountedPixel) : r.inside p = true ↔
    0 ≤ (p.col : Int) - r.left ∧ (p.col : Int) - r.left < r.width ∧ 0 ≤ (p.row : Int) - r.top
      ∧ (p.row : Int) - r.top < r.height := by
  simp only [Rect.inside, Bool.and_eq_true, decide_eq_true_eq, and_assoc]

/-- The bin of a coordinate inside its axis gets the pixel, no other does. -/
theorem getElem_addToBin {d : Int} {size : Nat} (h0 : 0 ≤ d) (h1 : d < size) (bins : Vector Bin 64) (y : Nat) (i : Fin 64) :
    (addToBin bins (binOf d.toNat size) y)[i] = if (i.val : Int) = d * 64 / size then bins[i].add y else bins[i] := by
  obtain ⟨n, rfl⟩ := Int.eq_ofNat_of_zero_le h0
  have hn : n < size := by omega
  have hb : binOf n size < 64 := by
    rw [binOf, Nat.div_lt_iff_lt_mul (by omega)]
    omega
  have hi : (i.val : Int) = (n : Int) * 64 / size ↔ (⟨binOf n size, hb⟩ : Fin 64) = i := by
    rw [Fin.ext_iff]
    show _ ↔ n * 64 / size = i.val
    rw [← Int.natCast_inj]
    push_cast
    exact eq_comm
  rw [Int.toNat_natCast, addToBin, dif_pos hb, upd]
  by_cases he : (⟨binOf n size, hb⟩ : Fin 64) = i
  · rw [if_pos (hi.2 he), ← he]
    exact Vector.getElem_set_self ..
  · rw [if_neg (hi.not.2 he)]
    exact Vector.getElem_set_ne _ _ fun h => he (Fin.ext h)

/-- Settles O43: `mem_countedPixels` and its order, and the bins of an added pixel by `getElem_addToBin`. -/
theorem countedPixelsAreExact : Obligations.CountedPixelsAreExact := by
  refine ⟨fun r off bytes hd _ hw => ⟨fun p => mem_countedPixels hd hw, countedPixels_pairwise hd⟩,
    fun r i => ⟨rfl, ?_, ?_, rfl⟩, fun a p => ?added⟩
  · exact Vector.getElem_replicate ..
  · exact Vector.getElem_replicate ..
  case added =>
    intro x y added
    refine ⟨fun h => ?_, fun h1 h2 h3 h4 => ?_⟩
    · exact if_neg fun h' => h ((inside_iff ..).1 h')
    · have hadd : a.addPixel p = _ := if_pos ((inside_iff ..).2 ⟨h1, h2, h3, h4⟩)
      rw [hadd]
      exact ⟨rfl, rfl, fun i => ⟨getElem_addToBin h1 h2 .., getElem_addToBin h3 h4 ..⟩⟩

/-! ### An owner's pixel write (R9, R10, R23 to R25) -/

section
variable {s : State} {m : ModuleId} {off : Nat} {x : Transaction}

theorem captureWrite_of_pixel (place : Nat) (ho : x.requester = s.trackers[m].record.owner)
    (ha : off < s.trackers[m].record.area) : s.captureWrite m place off x = s.pixelWrite m place off x := by
  rw [State.captureWrite, if_pos ho, if_pos ha]

/-- A write of a FILLING module: counted, and translated into the fill slot. -/
theorem pixelOpen_of_filling {i : Nat} {acc : Option Profile} (place : Nat) (h : s.trackers[m].capture = .filling i acc) :
    s.pixelOpen m place off x =
      (s.modTracker m fun t => t.setCapture (.filling i (acc.map
        (·.addAll (countedPixels s.trackers[m].record off (writeBytes x)))))).forward place (s.slotBase m i + off) x := by
  rw [State.pixelOpen, h]
  dsimp only [Capture.fillSlot, State.modTracker, upd]
  rw [h]
  rfl

theorem pixelOpen_of_discarding (place : Nat) (h : s.trackers[m].capture = .discarding) :
    s.pixelOpen m place off x = s.answer place (.ok []) := by
  rw [State.pixelOpen, h]
  rfl

theorem pixelWrite_of_open (place : Nat) (h : s.trackers[m].capture ≠ .idle) :
    s.pixelWrite m place off x = s.pixelOpen m place off x := if_neg h

theorem pixelWrite_of_idle (place : Nat) (h : s.trackers[m].capture = .idle) :
    s.pixelWrite m place off x = (s.openCapture m).pixelOpen m place off x := if_pos h

theorem openCapture_granted {i : Nat} (h : s.store.mods[m].grant = some i) :
    s.openCapture m =
      (s.modSlots m (·.take i)).modTracker m (·.setCapture (.filling i (s.ctl.mods[m].rect.map Profile.fresh))) := by
  rw [State.openCapture, h]

theorem openCapture_refused (h : s.store.mods[m].grant = none) :
    s.openCapture m = (s.modTracker m (·.setCapture .discarding)).raise
      (moduleRaise .frameDiscarded m s.trackers[m].record.lastTrailer 0) := by
  rw [State.openCapture, h]

theorem slotBase_take {i : Nat} {y : Slot} (h : s.store.mods[m].slots[i]? = some y) :
    (s.modSlots m (·.take i)).slotBase m i = y.base := by
  refine slotBase_of_getElem? (y := y.fill) ?_
  show ((s.store.mods.set m (s.store.mods[m].take i))[m.val]).slots[i]? = some y.fill
  rw [Vector.getElem_set_self]
  show (s.store.mods[m].slots.modify i Slot.fill)[i]? = _
  rw [getElem?_modify_of, if_pos rfl, h]
  rfl

theorem modTracker_modTracker (f g : Tracker → Tracker) :
    (s.modTracker m f).modTracker m g = s.modTracker m fun y => g (f y) := by
  have h : upd (upd s.trackers m f) m g = upd s.trackers m fun y => g (f y) := by
    unfold upd
    rw [Vector.set_set]
    congr 2
    exact Vector.getElem_set_self ..
  exact congrArg (fun v => ({ s with trackers := v } : State)) h

/-- The first write of a frame with a slot granted. -/
theorem pixelWrite_granted {i : Nat} {y : Slot} (place : Nat) (h : s.trackers[m].capture = .idle)
    (hg : s.store.mods[m].grant = some i) (hy : s.store.mods[m].slots[i]? = some y) :
    s.pixelWrite m place off x =
      ((s.modSlots m (·.take i)).modTracker m fun t => t.setCapture (.filling i ((s.ctl.mods[m].rect.map Profile.fresh).map
        (·.addAll (countedPixels s.trackers[m].record off (writeBytes x)))))).forward place (y.base + off) x := by
  have hcap : (s.openCapture m).trackers[m] =
      s.trackers[m].setCapture (.filling i (s.ctl.mods[m].rect.map Profile.fresh)) := by
    rw [openCapture_granted hg]
    exact Vector.getElem_set_self ..
  have hbase : (s.openCapture m).slotBase m i = y.base := by
    rw [openCapture_granted hg]
    exact slotBase_take hy
  rw [pixelWrite_of_idle place h, pixelOpen_of_filling place (congrArg Tracker.capture hcap), hbase, hcap,
    openCapture_granted hg, modTracker_modTracker]
  rfl

/-- The first write of a frame with no slot granted. -/
theorem pixelWrite_refused (place : Nat) (h : s.trackers[m].capture = .idle) (hg : s.store.mods[m].grant = none) :
    s.pixelWrite m place off x = ((s.modTracker m (·.setCapture .discarding)).raise
      (moduleRaise .frameDiscarded m s.trackers[m].record.lastTrailer 0)).answer place (.ok []) := by
  have hcap : (s.openCapture m).trackers[m] = s.trackers[m].setCapture .discarding := by
    rw [openCapture_refused hg]
    exact Vector.getElem_set_self ..
  rw [pixelWrite_of_idle place h, pixelOpen_of_discarding place (congrArg Tracker.capture hcap), openCapture_refused hg]

end

/-- Settles O44: the write reaches `State.pixelWrite`, which is read off in each capture state. -/
theorem pixelWriteTakes : Obligations.PixelWriteTakes := by
  intro t x m e s hq hlo hhi hc hw hx ho off ha s1 count capture
  have hexec : exec (.upstreamTransaction t x) s = .next (s1.pixelWrite m s.serial off x).deliver := by
    rw [exec_of_captureWrite t hq hlo hhi hc hw hx, captureWrite_of_pixel (s := s1) _ ho ha]
  rw [hexec]
  refine ⟨fun i acc y hcap hy => ?filling, fun i y hcap hg hy => ?granted, fun hcap hg => ?refused, fun hcap => ?discarding⟩
  case filling =>
    have hcap1 : s1.trackers[m].capture = .filling i acc := hcap
    have hbase : s1.slotBase m i = y.base := slotBase_of_getElem? hy
    rw [pixelWrite_of_open (s := s1) _ (by rw [hcap1]; nofun), pixelOpen_of_filling _ hcap1, hbase]
    rfl
  case granted =>
    rw [pixelWrite_granted (s := s1) _ hcap hg hy, Option.map_map]
    rfl
  case refused =>
    rw [pixelWrite_refused (s := s1) _ hcap hg]
    rfl
  case discarding =>
    have hcap1 : s1.trackers[m].capture = .discarding := hcap
    rw [pixelWrite_of_open (s := s1) _ (by rw [hcap1]; nofun), pixelOpen_of_discarding _ hcap1]

/-! ### Well-formed trailers (R26 to R32) -/

/-- A whole trailer at the trailer's offset is latched and answered OK (R26). -/
theorem trailerWrite_of_wellFormed {s : State} {x : Transaction} {m : ModuleId} {off : Nat} (place : Nat) (hl : x.len = 64)
    (ho : off = s.trackers[m].record.area) :
    s.trailerWrite m place off x = (s.trailer m (latchTrailer (writeBytes x))).answer place (.ok []) := by
  rw [State.trailerWrite, if_pos ⟨hl, ho⟩]

theorem verdict_reason (t : Trailer) : t.verdict.reason =
    if t.pipelineError then some 3 else if t.duration = 0 ∨ t.gain = 0 then some 2 else none := by
  unfold Trailer.verdict
  split
  · rfl
  · split <;> rfl

section
variable {s : State} {m : ModuleId} {t : Trailer}

theorem trailer_of_filling_good {i : Nat} {acc : Option Profile} (h : s.trackers[m].capture = .filling i acc)
    (hr : t.verdict.reason = none) : s.trailer m t = s.closeFrameOf m i acc t := by
  rw [State.trailer, h]
  dsimp only
  rw [hr]

theorem trailer_of_filling_bad {i n : Nat} {acc : Option Profile} (h : s.trackers[m].capture = .filling i acc)
    (hr : t.verdict.reason = some n) :
    s.trailer m t = ((((s.modSlots m (·.giveBack i))).setIdle m).trailerBad m t.frame n).renew m t.frame := by
  rw [State.trailer, h]
  dsimp only
  rw [hr, ← returnFill_of_filling h]

theorem trailer_of_discarding_good (h : s.trackers[m].capture = .discarding) (hr : t.verdict.reason = none) :
    s.trailer m t = (s.setIdle m).renew m t.frame := by
  rw [State.trailer, h]
  dsimp only
  rw [hr]

theorem trailer_of_discarding_bad {n : Nat} (h : s.trackers[m].capture = .discarding) (hr : t.verdict.reason = some n) :
    s.trailer m t = ((s.setIdle m).trailerBad m t.frame n).renew m t.frame := by
  rw [State.trailer, h]
  dsimp only
  rw [hr]

theorem trailer_of_idle (h : s.trackers[m].capture = .idle) :
    s.trailer m t = (s.trailerBad m t.frame reasonIdle).renew m t.frame := by
  rw [State.trailer, h]

theorem renew_ctl (frame : Word) : (s.renew m frame).ctl = s.ctl := by
  unfold State.renew
  dsimp only
  split <;> rfl

theorem setIdle_getElem : (s.setIdle m).trackers[m] = { s.trackers[m] with capture := .idle } :=
  Vector.getElem_set_self ..

/-- Liveness renewed, where the deadline fits in the time count (R32). -/
theorem renew_eq {r : ModuleRecord} {d : Option Time} (frame : Word) (hr : s.trackers[m].record = r)
    (hd : s.trackers[m].deadline = d) (ht : s.time.toNat + r.staleLimit < 2 ^ 64) :
    s.renew m frame =
      if d.isSome then
        { s with
          trackers := s.trackers.set m
            { record := { r with lastTrailer := frame }, capture := s.trackers[m].capture
              deadline := some (BitVec.ofNat 64 (s.time.toNat + r.staleLimit)) } }
      else
        ({ s with
          trackers := s.trackers.set m
            { record := { r with lastTrailer := frame }, capture := s.trackers[m].capture
              deadline := some (BitVec.ofNat 64 (s.time.toNat + r.staleLimit)) } } : State).raise
          { kind := .moduleLive, subject := m.val, second := 0, frame := frame, reason := 0 } := by
  subst hr hd
  rw [State.renew, laterBy, if_pos ht]
  rfl

end

/-- Settles O45: the write reaches `State.trailer`, which is read off in each capture state; liveness by `renew_eq`. -/
theorem trailerTakes : Obligations.TrailerTakes := by
  intro t x m e s hq hlo hhi hc hw hx ho hlen hoff htime b frame suspect invalid s1 idle bad renew slots ends
  have hexec : ∀ s', s1.trailer m (latchTrailer b) = s' → ends s' := fun s' h => by
    show exec (.upstreamTransaction t x) s = _
    rw [exec_of_captureWrite t hq hlo hhi hc hw hx, captureWrite_of_owner_trailer (s := s1) _ ho hoff.ge,
      trailerWrite_of_wellFormed (s := s1) _ hlen hoff, h]
  have hrenew : ∀ s' : State, s'.trackers[m].record = s.trackers[m].record →
      s'.trackers[m].deadline = s.trackers[m].deadline → s'.time = t → s'.renew m frame = renew s' := fun s' hr hd ht => by
    subst ht
    exact renew_eq frame hr hd htime
  have hreason : (latchTrailer b).verdict.reason = if suspect then some 3 else if invalid then some 2 else none := by
    rw [verdict_reason]
    have herr : (latchTrailer b).pipelineError = true ↔ suspect := beq_iff_eq
    by_cases hsus : suspect
    · rw [if_pos hsus, if_pos (herr.2 hsus)]
    · rw [if_neg hsus, if_neg (herr.not.2 hsus)]
      exact if_congr ⟨fun h => ⟨hsus, h⟩, fun h => h.2⟩ rfl rfl
  have hgood : ¬suspect → ¬invalid → (latchTrailer b).verdict.reason = none := fun h1 h2 => by
    rw [hreason, if_neg h1, if_neg h2]
  have hbad : suspect ∨ invalid → (latchTrailer b).verdict.reason = some (if suspect then 3 else 2) := fun h => by
    rw [hreason]
    by_cases hsus : suspect
    · rw [if_pos hsus, if_pos hsus]
    · rw [if_neg hsus, if_neg hsus, if_pos (h.resolve_left hsus)]
  have hid : ∀ s', idle s' = s'.setIdle m := fun _ => rfl
  have hidle : ∀ s' : State, s'.trackers = s.trackers → s'.time = t → (s'.setIdle m).renew m frame = renew (idle s') :=
    fun s' ht htm => by rw [hid]; exact hrenew _ (by rw [setIdle_getElem, ht]) (by rw [setIdle_getElem, ht]) htm
  have hidleBad : ∀ (s' : State) n, s'.trackers = s.trackers → s'.time = t →
      ((s'.setIdle m).trailerBad m frame n).renew m frame = renew (bad (idle s') n) := fun s' n ht htm => by
    have hset : ((s'.setIdle m).trailerBad m frame n).trackers[m] = { s'.trackers[m] with capture := .idle } :=
      setIdle_getElem
    exact hrenew _ (by rw [hset, ht]) (by rw [hset, ht]) htm
  refine ⟨fun i acc hcap => ⟨fun h1 h2 => ?good, fun h => hexec _ ?spoilt⟩,
    fun hcap => ⟨fun h1 h2 => hexec _ ?dropped, fun h => hexec _ ?droppedBad⟩, fun hcap => hexec _ ?idle⟩
  case good =>
    intro r s2
    refine hexec _ ?_
    have hs2 : ((s1.closeSlot m i acc (latchTrailer b)).setIdle m).renew m frame = s2 := hidle _ rfl rfl
    have hctl : s2.ctl = s.ctl := by rw [← hs2, renew_ctl]; rfl
    rw [trailer_of_filling_good (s := s1) hcap (hgood h1 h2), State.closeFrameOf]
    show ((((s1.closeSlot m i acc (latchTrailer b)).setIdle m).renew m frame).modCtl _).lookForPair m = _
    rw [hs2, State.modCtl, hctl]
    rfl
  case spoilt =>
    rw [trailer_of_filling_bad (s := s1) hcap (hbad h)]
    exact hidleBad _ _ rfl rfl
  case dropped =>
    rw [trailer_of_discarding_good (s := s1) hcap (hgood h1 h2)]
    exact hidle s1 rfl rfl
  case droppedBad =>
    rw [trailer_of_discarding_bad (s := s1) hcap (hbad h)]
    exact hidleBad s1 _ rfl rfl
  case idle =>
    rw [trailer_of_idle (s := s1) hcap]
    exact hrenew _ rfl rfl rfl

end Sys2Proof.Machine
end

section
/-! The candidate (R80, R81), and what an advance takes, publishes and raises (R63, R75 to R79, R81, R86 to R88, R105). -/

namespace Sys2Proof.Machine

-- Declaration after declaration: elaborated side by side, those of the joined text need more memory than the check has.
set_option Elab.async false

/-! ### The candidate (R80, R81) -/

section
variable {s : State} {c : Controller}

theorem eligible_iff (s : State) (c : Controller) (m : ModuleId) : eligible s c m = true ↔
    s.trackers[m].record.enabled = true ∧ s.trackers[m].deadline.isSome = true ∧ c.mods[m].barred = false := by
  rw [eligible, Bool.and_eq_true, Bool.and_eq_true, Bool.not_eq_true', and_assoc]
  rfl

/-- A module's band distance at the Controller's zoom. -/
def Controller.distance (c : Controller) (m : ModuleId) : Nat := bandDistance c.mods[m].calibration c.zq

/-- Of two modules the first is preferred: nearer, or as near and of no higher number. -/
def Controller.prefers (c : Controller) (m n : ModuleId) : Prop :=
  c.distance m < c.distance n ∨ (c.distance m = c.distance n ∧ m ≤ n)

theorem prefers_trans {m n o : ModuleId} (h : c.prefers m n) (h' : c.prefers n o) : c.prefers m o := by
  simp only [Controller.prefers, Fin.le_def] at *
  omega

theorem prefers_antisymm {m n : ModuleId} (h : c.prefers m n) (h' : c.prefers n m) : m = n := by
  apply Fin.ext
  simp only [Controller.prefers, Fin.le_def] at *
  omega

/-- The best of a list of modules: an eligible one preferred to every eligible one, or none where none is eligible. -/
def isBest (s : State) (c : Controller) (l : List ModuleId) : Option ModuleId → Prop
  | none => ∀ n ∈ l, eligible s c n = false
  | some m => m ∈ l ∧ eligible s c m = true ∧ ∀ n ∈ l, eligible s c n = true → c.prefers m n

/-- One more module, of a higher number than all before it, is looked at. -/
theorem isBest_nearer {l : List ModuleId} {b : Option ModuleId} {m : ModuleId} (h : isBest s c l b) (hm : ∀ n ∈ l, n < m) :
    isBest s c (l ++ [m]) (nearer s c b m) := by
  have hself : ∀ n, c.prefers n n := fun n => .inr ⟨rfl, le_refl n⟩
  unfold nearer
  split
  · rename_i he
    cases b with
    | none =>
      refine ⟨by simp, he, fun n hn hen => ?_⟩
      obtain hn | hn := List.mem_append.1 hn
      · rw [h n hn] at hen; cases hen
      · rw [List.mem_singleton.1 hn]; exact hself m
    | some k =>
      obtain ⟨hk, hek, hbest⟩ := h
      dsimp only
      split
      · rename_i hlt
        have hmk : c.prefers m k := .inl hlt
        refine ⟨by simp, he, fun n hn hen => ?_⟩
        obtain hn | hn := List.mem_append.1 hn
        · exact prefers_trans hmk (hbest n hn hen)
        · rw [List.mem_singleton.1 hn]; exact hself m
      · rename_i hge
        refine ⟨List.mem_append_left _ hk, hek, fun n hn hen => ?_⟩
        obtain hn | hn := List.mem_append.1 hn
        · exact hbest n hn hen
        · rw [List.mem_singleton.1 hn]
          obtain h | h := Nat.lt_or_eq_of_le (Nat.not_lt.1 hge)
          · exact .inl h
          · exact .inr ⟨h, le_of_lt (hm k hk)⟩
  · rename_i he
    have he' : eligible s c m = false := Bool.not_eq_true _ ▸ he
    cases b with
    | none =>
      intro n hn
      obtain hn | hn := List.mem_append.1 hn
      · exact h n hn
      · rw [List.mem_singleton.1 hn]; exact he'
    | some k =>
      obtain ⟨hk, hek, hbest⟩ := h
      refine ⟨List.mem_append_left _ hk, hek, fun n hn hen => ?_⟩
      obtain hn | hn := List.mem_append.1 hn
      · exact hbest n hn hen
      · rw [List.mem_singleton.1 hn, he'] at hen; cases hen

/-- Modules looked at in increasing order leave the best of them. -/
theorem isBest_foldl (l : List ModuleId) (hl : l.Pairwise (· < ·)) : isBest s c l (l.foldl (nearer s c) none) := by
  induction l using List.reverseRecOn with
  | nil => exact nofun
  | append_singleton l m ih =>
    obtain ⟨h1, -, h2⟩ := List.pairwise_append.1 hl
    rw [List.foldl_append]
    exact isBest_nearer (ih h1) fun n hn => h2 n hn m (List.mem_singleton.2 rfl)

theorem candidateOf_forced {f : ModuleId} (h : c.forced = some f) :
    candidateOf s c = if s.trackers[f].deadline.isSome then some f else none := by
  rw [candidateOf, h]
  rfl

/-- With no force the candidate is the best of all modules. -/
theorem candidateOf_unforced (h : c.forced = none) : isBest s c allModules (candidateOf s c) := by
  rw [candidateOf, h]
  exact isBest_foldl allModules (by decide)

end

/-- Settles O58: the scan in increasing order keeps the best so far (`isBest_foldl`). -/
theorem candidateIsNearest : Obligations.CandidateIsNearest := by
  intro s c
  refine ⟨fun f hf => candidateOf_forced hf, fun hf => ?_⟩
  intro fit distance
  have hbest := candidateOf_unforced (s := s) hf
  refine ⟨?none, fun m => ?some⟩
  case none =>
    constructor
    · intro hn m hm
      rw [hn] at hbest
      have := hbest m (mem_allModules m)
      rw [(eligible_iff s c m).2 hm] at this
      cases this
    · intro hno
      cases hb : candidateOf s c with
      | none => rfl
      | some m =>
        rw [hb] at hbest
        exact absurd ((eligible_iff s c m).1 hbest.2.1) (hno m)
  case some =>
    constructor
    · intro hm
      rw [hm] at hbest
      obtain ⟨-, he, hall⟩ := hbest
      exact ⟨(eligible_iff s c m).1 he, fun n hn => hall n (mem_allModules n) ((eligible_iff s c n).2 hn)⟩
    · rintro ⟨hm, hall⟩
      cases hb : candidateOf s c with
      | none =>
        rw [hb] at hbest
        have := hbest m (mem_allModules m)
        rw [(eligible_iff s c m).2 hm] at this
        cases this
      | some k =>
        rw [hb] at hbest
        obtain ⟨-, he, hk⟩ := hbest
        rw [prefers_antisymm (hk m (mem_allModules m) ((eligible_iff s c m).2 hm)) (hall k ((eligible_iff s c k).1 he))]

/-! ### What the hand-off and level stages raise -/

/-- The events of a stage are those of `base` and then others than ZOOM_CLAMPED and RAMP_DONE. -/
def Staged.follows (base : List Raise) (x : Staged) : Prop :=
  ∃ rs, x.raised = base ++ rs ∧ ∀ r ∈ rs, r.kind ≠ .zoomClamped ∧ r.kind ≠ .rampDone

section
variable {base : List Raise} {a : Advance} {x : Staged} {s : State}

theorem follows_refl (x : Staged) : x.follows x.raised := ⟨[], by simp, nofun⟩

theorem follows_raise (h : x.follows base) {k : EventKind} (hz : k ≠ .zoomClamped) (hr : k ≠ .rampDone) (m n : Nat)
    (c : Controller) : Staged.follows base { ctl := c, raised := x.raised ++ [a.event k m n] } := by
  obtain ⟨rs, hx, hrs⟩ := h
  refine ⟨rs ++ [a.event k m n], by rw [hx, List.append_assoc], fun r hr' => ?_⟩
  obtain hr' | hr' := List.mem_append.1 hr'
  · exact hrs r hr'
  · rw [List.mem_singleton.1 hr']
    exact ⟨hz, hr⟩

theorem follows_cut (h : x.follows base) (m : ModuleId) : (cut a x m).follows base := follows_raise h (by decide) (by decide) _ _ _

theorem follows_giveWay (h : x.follows base) (m : ModuleId) : (giveWay a x m).follows base := by
  unfold giveWay
  split
  · exact follows_cut h _
  · exact follows_raise h (by decide) (by decide) _ _ _

theorem follows_completeFade (h : x.follows base) (sm im : ModuleId) (n : Nat) : (completeFade a x sm im n).follows base :=
  follows_raise h (by decide) (by decide) _ _ _

theorem follows_leaveFade (h : x.follows base) (sm im : ModuleId) (n : Nat) : (leaveFade a x sm im n).follows base :=
  follows_raise h (by decide) (by decide) _ _ _

theorem follows_prepareLimit {c : Controller} (h : x.follows base) (sm im : ModuleId) :
    (prepareLimit s a { x with ctl := c } sm im).follows base := by
  unfold prepareLimit
  split <;> exact follows_raise h (by decide) (by decide) _ _ _

theorem follows_continuePreparation (h : x.follows base) (sm im : ModuleId) :
    (continuePreparation s a x sm im).follows base := by
  unfold continuePreparation
  dsimp only
  split
  · split
    · exact follows_prepareLimit h sm im
    · exact h
  · split
    · exact h
    · split
      · exact follows_prepareLimit h sm im
      · exact h

theorem follows_fadeStep (h : x.follows base) (sm im : ModuleId) : (fadeStep a x sm im).follows base := by
  unfold fadeStep
  cases x.ctl.direction <;> dsimp only <;> split
  · exact follows_completeFade (x := { x with ctl := _ }) h _ _ _
  · exact h
  · exact follows_leaveFade (x := { x with ctl := _ }) h _ _ _
  · exact h

theorem follows_levelStage (h : x.follows base) (b : Option ModuleId) : (levelStage a b x).follows base := by
  unfold levelStage
  split
  · exact follows_fadeStep h _ _
  · split <;> exact h
  · exact h
  · exact h

theorem follows_starvedStage (h : x.follows base) (l : ModuleId → Bool) (sm : Option ModuleId) :
    (starvedStage l a x sm).follows base := by
  unfold starvedStage
  cases x.ctl.candidate <;> cases sm <;> dsimp only
  · exact h
  · split <;> exact h
  · exact follows_cut h _
  · split
    · exact follows_cut h _
    · exact h

theorem follows_steadyStage (h : x.follows base) (l : ModuleId → Bool) (sm : ModuleId) :
    (steadyStage s l a x sm).follows base := by
  unfold steadyStage
  split
  · exact follows_giveWay h _
  · split
    · split <;> exact h
    · exact h

theorem follows_preparingStage (h : x.follows base) (l : ModuleId → Bool) (sm im : ModuleId) :
    (preparingStage s l a x sm im).follows base := by
  unfold preparingStage
  split
  · split
    · exact follows_giveWay (follows_raise h (by decide) (by decide) _ _ _) _
    · exact follows_cut h _
  · split
    · exact follows_raise h (by decide) (by decide) _ _ _
    · split
      · exact h
      · split
        · exact h
        · split
          · exact follows_continuePreparation h _ _
          · exact h

theorem follows_fadingStage (h : x.follows base) (l : ModuleId → Bool) (sm im : ModuleId) :
    (fadingStage l a x sm im).follows base := by
  unfold fadingStage
  split
  · exact follows_leaveFade h _ _ _
  · split
    · exact follows_completeFade h _ _ _
    · split
      · exact h
      · split <;> exact h

theorem follows_handoffStage (h : x.follows base) : (handoffStage s a x).follows base := by
  have h' : (readied s x).follows base := h
  unfold handoffStage
  dsimp only
  split
  · exact follows_starvedStage (x := readied s x) h' _ _
  · exact follows_steadyStage (x := readied s x) h' _ _
  · exact follows_preparingStage (x := readied s x) h' _ _ _
  · exact follows_fadingStage (x := readied s x) h' _ _ _

/-- The events of an advance are those of its zoom stage and then others. -/
theorem follows_advanceStages (s : State) (a : Advance) :
    (advanceStages s a).follows (zoomStage a s.ctl.transfer).raised :=
  follows_levelStage (follows_handoffStage (follows_refl _)) _

end

/-! ### The events of the zoom stage (R76, R79) -/

/-- ZOOM_CLAMPED of an advance (R76). -/
def clampEvent (a : Advance) (c : Controller) : Raise where
  kind := .zoomClamped
  subject := 0
  second := 0
  frame := word c.limitedZoom
  reason := reasonAdvance
  advance := some a

/-- RAMP_DONE (R79). -/
def rampEvent (a : Advance) : Raise where
  kind := .rampDone
  subject := a.view.val
  second := 0
  frame := a.frame
  reason := 0

/-- The target that the zoom stage takes, before the limits. -/
def Controller.askedTarget (c : Controller) : Nat := c.pendingZoom.elim c.zt (·.target)

/-- Whether the limits change target or zoom (R76). -/
def Controller.isClamped (c : Controller) : Bool :=
  clamped c.askedTarget c.nextTarget || clamped c.zq c.limitedZoom

/-- Whether an open ramp arrives (R79). -/
def Controller.arrives (c : Controller) : Bool :=
  (c.pendingZoom.isSome || c.rampOpen) && c.nextZoom == c.nextTarget

theorem zoomStage_events (a : Advance) (c : Controller) :
    (zoomStage a c.transfer).raised =
      (if c.isClamped then [clampEvent a c] else []) ++ if c.arrives then [rampEvent a] else [] := by
  unfold zoomStage rampEnd
  dsimp only
  split
  · rename_i h
    have ha : c.arrives = true := h
    rw [if_pos ha]
    rfl
  · rename_i h
    have ha : ¬c.arrives = true := h
    rw [if_neg ha, List.append_nil]
    rfl

theorem index_eq_zoomClamped (k : EventKind) : k.index = 15 ↔ k = .zoomClamped := by revert k; intro k; cases k <;> decide

theorem index_eq_rampDone (k : EventKind) : k.index = 13 ↔ k = .rampDone := by revert k; intro k; cases k <;> decide

/-- The events of an advance, as its end shows them. -/
theorem advance_shows {s : State} (h : s.ctl.frozen = false) {a : Advance} {as rs : List Raise} {r : Raise}
    (he : (advanceStages s a).raised = as ++ r :: rs) (hr : ∀ x ∈ rs, x.kind.index ≠ r.kind.index) :
    (s.advance a).agent.events[r.kind.index].flag = true
      ∧ (s.advance a).agent.events[r.kind.index].detail = r.detail s.time := by
  rw [advance_events h, he]
  exact raiseAll_last r hr as _

theorem advance_silent {s : State} (h : s.ctl.frozen = false) {a : Advance} {n : Fin 16}
    (hr : ∀ r ∈ (advanceStages s a).raised, r.kind.index ≠ n) :
    (s.advance a).agent.events[n] = s.agent.events[n] := by
  rw [advance_events h]
  exact raiseAll_quiet hr _

section
variable {s : State} {a : Advance}

theorem zoomClamped_shown (h : s.ctl.frozen = false) (hc : s.ctl.isClamped = true) :
    (s.advance a).agent.events[(15 : Fin 16)].flag = true
      ∧ (s.advance a).agent.events[(15 : Fin 16)].detail = (clampEvent a s.ctl).detail s.time := by
  obtain ⟨rs, hx, hrs⟩ := follows_advanceStages s a
  rw [zoomStage_events, if_pos hc, List.append_assoc] at hx
  have hx' : (advanceStages s a).raised
      = [] ++ clampEvent a s.ctl :: ((if s.ctl.arrives then [rampEvent a] else []) ++ rs) := hx
  refine advance_shows h hx' fun r hr => ?_
  show r.kind.index ≠ 15
  rw [Ne, index_eq_zoomClamped]
  obtain hr | hr := List.mem_append.1 hr
  · split at hr
    · rw [List.mem_singleton.1 hr]; nofun
    · cases hr
  · exact (hrs r hr).1

theorem zoomClamped_silent (h : s.ctl.frozen = false) (hc : s.ctl.isClamped = false) :
    (s.advance a).agent.events[(15 : Fin 16)] = s.agent.events[(15 : Fin 16)] := by
  obtain ⟨rs, hx, hrs⟩ := follows_advanceStages s a
  refine advance_silent h fun r hr => ?_
  rw [hx, zoomStage_events, hc, if_neg Bool.false_ne_true, List.nil_append] at hr
  rw [Ne, index_eq_zoomClamped]
  obtain hr | hr := List.mem_append.1 hr
  · split at hr
    · rw [List.mem_singleton.1 hr]; nofun
    · cases hr
  · exact (hrs r hr).1

theorem rampDone_shown (h : s.ctl.frozen = false) (hc : s.ctl.arrives = true) :
    (s.advance a).agent.events[(13 : Fin 16)].flag = true
      ∧ (s.advance a).agent.events[(13 : Fin 16)].detail = (rampEvent a).detail s.time := by
  obtain ⟨rs, hx, hrs⟩ := follows_advanceStages s a
  rw [zoomStage_events, if_pos hc, List.append_assoc] at hx
  refine advance_shows h (r := rampEvent a) hx fun r hr => ?_
  show r.kind.index ≠ 13
  rw [Ne, index_eq_rampDone]
  exact (hrs r hr).2

theorem rampDone_silent (h : s.ctl.frozen = false) (hc : s.ctl.arrives = false) :
    (s.advance a).agent.events[(13 : Fin 16)] = s.agent.events[(13 : Fin 16)] := by
  obtain ⟨rs, hx, hrs⟩ := follows_advanceStages s a
  refine advance_silent h fun r hr => ?_
  rw [hx, zoomStage_events, hc, if_neg Bool.false_ne_true, List.append_nil] at hr
  rw [Ne, index_eq_rampDone]
  obtain hr | hr := List.mem_append.1 hr
  · split at hr
    · rw [List.mem_singleton.1 hr]; nofun
    · cases hr
  · exact (hrs r hr).2

/-! ### The modules and the other blocks after an advance -/

/-- A module's items are published as they stand (R88). -/
theorem publication_mods (c : Controller) (m : ModuleId) : c.publication.mods[m] =
    { gain := c.mods[m].gain, rx := c.mods[m].rx, ry := c.mods[m].ry, calibration := c.mods[m].calibration } := by
  show (mapAll (fun (x : ModuleComp) => _) c.mods)[m.val] = _
  rw [mapAll_getElem]
  rfl

/-- The modules as the hand-off stage takes them: calibrations moved into use, marks cleared (R63, R90). -/
theorem readied_mods (s : State) (a : Advance) (m : ModuleId) :
    (readied s (zoomStage a s.ctl.transfer)).ctl.mods[m] =
      { s.ctl.mods[m] with
        calibration := s.ctl.mods[m].pendingCalibration.getD s.ctl.mods[m].calibration, pendingCalibration := none
        resetMark := false } := by
  have hz := (zoomStage_keeps a s.ctl).2.2.2.2.2.2.2.2.2 m.val m.isLt
  show (mapAll _ (zoomStage a s.ctl.transfer).ctl.mods)[m.val] = _
  rw [mapAll_getElem, hz]
  rfl

/-- Raises write no snapshot. -/
theorem raiseAll_snapshotCount (rs : List Raise) (s : State) :
    (s.raiseAll rs).agent.snapshotCount = s.agent.snapshotCount := by
  induction rs generalizing s with
  | nil => rfl
  | cons r rs ih => exact (ih (s.raise r)).trans (by rw [State.raise_agent, Agent.raise_snapshotCount])

/-- An advance changes the Controller and the Agent alone. -/
theorem advance_blocks (h : s.ctl.frozen = false) (a : Advance) :
    (s.advance a).store = s.store ∧ (s.advance a).trackers = s.trackers ∧ (s.advance a).path = s.path
      ∧ (s.advance a).comp = s.comp ∧ (s.advance a).reg = s.reg
      ∧ (s.advance a).agent.snapshotCount = s.agent.snapshotCount + 1 := by
  rw [advance_eq h]
  obtain ⟨g, hg⟩ := raiseAll_eq { s with ctl := (advanceStages s a).ctl.publish } (advanceStages s a).raised
  have hcount := raiseAll_snapshotCount (advanceStages s a).raised { s with ctl := (advanceStages s a).ctl.publish }
  rw [hg] at hcount ⊢
  refine ⟨rfl, rfl, rfl, rfl, rfl, ?_⟩
  show g.snapshotCount + 1 = _
  rw [show g.snapshotCount = s.agent.snapshotCount from hcount]

end

/-- Settles O60: `advanceStages_takes`, the events of the zoom stage, and the publication. -/
theorem advanceTakesPendings : Obligations.AdvanceTakesPendings := by
  intro a s
  refine ⟨fun hf => if_pos hf, fun hf => ?_⟩
  intro c
  have hc : c = (advanceStages s a).ctl.publish := advance_ctl hf a
  obtain ⟨t1, t2, t3, t4, t5, t6, t7, t8, t9, t10, t11, t12⟩ := advanceStages_takes s a
  obtain ⟨b1, b2, b3, b4, b5, b6⟩ := advance_blocks hf a
  have hmod : ∀ m : ModuleId, c.mods[m].pendingCalibration = none
      ∧ c.mods[m].calibration = s.ctl.mods[m].pendingCalibration.getD s.ctl.mods[m].calibration
      ∧ c.mods[m].resetMark = false := fun m => by
    have hm : (readied s (zoomStage a s.ctl.transfer)).ctl.mods[m.val] = _ := readied_mods s a m
    obtain ⟨k1, k2, k3⟩ := kept_mods (kept_advanceStages s a) m.val m.isLt
    rw [hm] at k1 k2 k3
    rw [hc]
    exact ⟨k2, k1, k3⟩
  have hfield : c.field = s.ctl.nextField := by rw [hc]; exact t1
  have hzt : c.zt = s.ctl.nextTarget := by rw [hc]; exact t3
  have hzq : c.zq = s.ctl.nextZoom := by rw [hc]; exact t5
  have hramp : c.rampOpen = true ↔ (s.ctl.pendingZoom.isSome = true ∨ s.ctl.rampOpen = true) ∧ c.zq ≠ c.zt := by
    have h6 : c.rampOpen = (advanceStages s a).ctl.rampOpen := by rw [hc]; rfl
    rw [h6, t6, hzq, hzt, Bool.and_eq_true, Bool.or_eq_true, bne_iff_ne]
  have hforced : c.forced = (advanceStages s a).ctl.forced := by rw [hc]; rfl
  have hfrozen : c.frozen = false := by rw [hc]; exact t12.trans hf
  refine ⟨by rw [hc]; exact t2, by rw [hc]; exact t11, by rw [hc]; exact t7, by rw [hc]; exact t8, hmod, hfield,
    by rw [hc]; exact t10, fun m hm => by rw [hforced, t9, hm], fun hm => by rw [hforced, t9, hm], fun hm => by rw [hforced, t9, hm],
    fun h => (hramp.1 h).2, ?zoom, by rw [hc]; rfl, by rw [hc]; rfl, by rw [hc]; rfl, by rw [hc]; rfl,
    by rw [← hfrozen, hc]; rfl, hfrozen, by rw [hc]; rfl, by rw [hc]; rfl, fun m => ?published, b6, b1, b2, b3, b4, b5⟩
  case published =>
    rw [hc, show (advanceStages s a).ctl.publish.published = (advanceStages s a).ctl.publication from rfl,
      publication_mods]
    exact ⟨rfl, rfl, rfl, rfl⟩
  case zoom =>
    intro limited target ramp events
    have hlim : ∀ z, limited z = clamp s.ctl.nextField.zmin s.ctl.nextField.zmax z := fun z => by
      show clamp c.field.zmin c.field.zmax z = _
      rw [hfield]
    have htarget : limited target = s.ctl.nextTarget := hlim _
    have hzoom : limited s.ctl.zq = s.ctl.limitedZoom := hlim _
    have hclamped : s.ctl.isClamped = true ↔ target ≠ limited target ∨ s.ctl.zq ≠ limited s.ctl.zq := by
      rw [htarget, hzoom]
      simp only [Controller.isClamped, clamped, Bool.or_eq_true, bne_iff_ne]
      rfl
    have harrives : s.ctl.arrives = true ↔ ramp ∧ c.zq = c.zt := by
      rw [hzq, hzt]
      simp only [Controller.arrives, Bool.and_eq_true, Bool.or_eq_true, beq_iff_eq]
      rfl
    refine ⟨hzt.trans htarget.symm, by rw [hc]; exact t4, ?_, hramp, fun h => ?_, fun h1 h2 => ?_, fun h1 h2 => ?_, fun h => ?_,
      fun n => ?_⟩
    · rw [hzq, hzt, hzoom, show c.rate = s.ctl.nextRate by rw [hc]; exact t4]
      rfl
    · rw [hzoom]
      exact zoomClamped_shown hf (hclamped.2 h)
    · exact zoomClamped_silent hf (Bool.not_eq_true _ ▸ fun h => (hclamped.1 h).elim (absurd h1) (absurd h2))
    · exact rampDone_shown hf (harrives.2 ⟨h1, h2⟩)
    · exact rampDone_silent hf (Bool.not_eq_true _ ▸ fun h' => h (harrives.1 h'))
    · have hev : events = (({ s with ctl := (advanceStages s a).ctl.publish } : State).raiseAll
          (advanceStages s a).raised).agent.events := advance_events hf a
      obtain h | ⟨r, hr, hn, hflag, hdet⟩ := raiseAll_cases n (advanceStages s a).raised
        { s with ctl := (advanceStages s a).ctl.publish }
      · exact .inl (by rw [hev]; exact h)
      · have hcar := carry_advanceStages s a r hr
        refine .inr ⟨by rw [hev]; exact hflag, ?_⟩
        rw [hev, hdet]
        unfold Raise.carries at hcar
        simp only [← index_eq_zoomClamped, ← index_eq_rampDone, hn] at hcar
        split
        · rename_i h15
          rw [if_pos h15] at hcar
          exact hcar
        · rename_i h15
          rw [if_neg h15] at hcar
          refine ⟨hcar.1, ?_⟩
          split
          · rename_i h13
            rw [if_pos h13] at hcar
            exact hcar.2
          · rename_i h13
            rw [if_neg h13] at hcar
            exact hcar.2

end Sys2Proof.Machine
end

section
/-! The hand-off stage of an advance (R90 to R103): what each transition leaves, which one an advance takes in each state,
and which events it shows. -/

namespace Sys2Proof.Machine

-- Declaration after declaration: elaborated side by side, those of the joined text need more memory than the check has.
set_option Elab.async false

/-! ### What a transition leaves of the modules -/

/-- STEADY with a serving module and no fade or rectangle. -/
def Controller.steadyAt (c : Controller) (m : ModuleId) : Prop :=
  c.phase = .steady m ∧ c.alpha = 0 ∧ c.k = 0 ∧ c.direction = .forward ∧ c.unrefined = false
    ∧ ∀ n : ModuleId, c.mods[n].rect = none

/-- A module's gain and refinement are those of another Controller. -/
def Controller.same (c d : Controller) (m : ModuleId) : Prop :=
  c.mods[m].gain = d.mods[m].gain ∧ c.mods[m].rx = d.mods[m].rx ∧ c.mods[m].ry = d.mods[m].ry

/-- A module is at unity gain and zero refinement. -/
def Controller.unityAt (c : Controller) (m : ModuleId) : Prop :=
  c.mods[m].gain = 16384 ∧ c.mods[m].rx = 0 ∧ c.mods[m].ry = 0

/-- A module begins to serve, with the gain and refinement it comes with (R82, R94, R102). -/
def Controller.takesOver (c : Controller) (m : ModuleId) (gain : Nat) (rx ry : Int) : Prop :=
  c.mods[m].gain = (if c.params.relax = 0 then 16384 else gain) ∧ c.mods[m].relaxStart = gain
    ∧ c.mods[m].relaxStep = 0 ∧ c.mods[m].rx = rx ∧ c.mods[m].ry = ry ∧ c.mods[m].barred = false

section
variable {c : Controller} {m n : ModuleId} {f : ModuleComp → ModuleComp}

theorem modModule_self (c : Controller) (m : ModuleId) (f : ModuleComp → ModuleComp) :
    (c.modModule m f).mods[m] = f c.mods[m] := by
  rw [Controller.modModule_mods, upd_get, if_pos rfl]

theorem modModule_ne (h : m ≠ n) : (c.modModule m f).mods[n] = c.mods[n] := by
  rw [Controller.modModule_mods, upd_get, if_neg h]

theorem clearRects_mods (c : Controller) (n : ModuleId) : c.clearRects.mods[n] = { c.mods[n] with rect := none } := by
  show (mapAll (fun (x : ModuleComp) => _) c.mods)[n.val] = _
  rw [mapAll_getElem]
  rfl

theorem settle_mods (c : Controller) (m n : ModuleId) : (c.settle m).mods[n] = { c.mods[n] with rect := none } :=
  clearRects_mods ..

theorem settle_steadyAt (c : Controller) (m : ModuleId) : (c.settle m).steadyAt m :=
  ⟨rfl, rfl, rfl, rfl, rfl, fun n => by rw [settle_mods]⟩

theorem steadyAt_modModule (h : c.steadyAt m) (hf : ∀ x, (f x).rect = x.rect) : (c.modModule n f).steadyAt m := by
  obtain ⟨h1, h2, h3, h4, h5, h6⟩ := h
  refine ⟨h1, h2, h3, h4, h5, fun k => ?_⟩
  by_cases hk : n = k
  · subst hk
    rw [modModule_self, hf, h6]
  · rw [modModule_ne hk, h6]

theorem settle_same (c : Controller) (m n : ModuleId) : (c.settle m).same c n := by
  unfold Controller.same
  rw [settle_mods]
  exact ⟨rfl, rfl, rfl⟩

end

section
variable {a : Advance} {x : Staged} {sm im m : ModuleId}

/-- A fade left: S serves as before, I is back at unity (R101, R102). -/
theorem leaveFade_takes (hne : sm ≠ im) (r : Nat) :
    (leaveFade a x sm im r).ctl.steadyAt sm ∧ (leaveFade a x sm im r).ctl.unityAt im
      ∧ (leaveFade a x sm im r).ctl.same x.ctl sm := by
  refine ⟨steadyAt_modModule (settle_steadyAt ..) fun _ => rfl, ?_, ?_⟩
  · show Controller.unityAt ((x.ctl.settle sm).modModule im .unity) im
    unfold Controller.unityAt
    rw [modModule_self]
    exact ⟨rfl, rfl, rfl⟩
  · show Controller.same ((x.ctl.settle sm).modModule im .unity) x.ctl sm
    unfold Controller.same
    rw [modModule_ne (Ne.symm hne), settle_mods]
    exact ⟨rfl, rfl, rfl⟩

/-- A fade completed: I serves, the former S is back at unity (R102). -/
theorem completeFade_takes (hne : sm ≠ im) (r : Nat) :
    (completeFade a x sm im r).ctl.steadyAt im ∧ (completeFade a x sm im r).ctl.unityAt sm
      ∧ (completeFade a x sm im r).ctl.takesOver im x.ctl.mods[im].gain x.ctl.mods[im].rx x.ctl.mods[im].ry := by
  refine ⟨steadyAt_modModule (steadyAt_modModule (settle_steadyAt ..) fun _ => rfl) fun _ => rfl, ?_, ?_⟩
  · show Controller.unityAt (((x.ctl.settle im).modModule sm .unity).modModule im _) sm
    unfold Controller.unityAt
    rw [modModule_ne (Ne.symm hne), modModule_self]
    exact ⟨rfl, rfl, rfl⟩
  · show Controller.takesOver (((x.ctl.settle im).modModule sm .unity).modModule im _) im _ _ _
    unfold Controller.takesOver
    rw [modModule_self, modModule_ne hne, settle_mods]
    exact ⟨rfl, rfl, rfl, rfl, rfl, rfl⟩

theorem retire_self (c : Controller) {f : ModuleId} (h : f ≠ m) : (c.retire (some f) m).mods[f] = c.mods[f].unity := by
  rw [Controller.retire, if_neg h, modModule_self]

theorem retire_new (c : Controller) (f : Option ModuleId) (m : ModuleId) : (c.retire f m).mods[m] = c.mods[m] := by
  unfold Controller.retire
  split
  · split
    · rfl
    · rename_i h
      rw [modModule_ne h]
  · rfl

/-- A cut: the module serves, the former serving module is back at unity (R94). -/
theorem cut_takes (a : Advance) (x : Staged) (m : ModuleId) :
    (cut a x m).ctl.steadyAt m
      ∧ (cut a x m).ctl.takesOver m x.ctl.mods[m].gain x.ctl.mods[m].rx x.ctl.mods[m].ry
      ∧ ∀ f, x.ctl.phase.serving = some f → f ≠ m → (cut a x m).ctl.unityAt f := by
  obtain ⟨-, -, -, -, -, -, -, -, -, -, -, hpar, -⟩ := kept_fields (kept_cut a x m)
  refine ⟨steadyAt_modModule (settle_steadyAt ..) fun _ => rfl, ?_, fun f hf hne => ?_⟩
  · unfold Controller.takesOver
    have hmod : (cut a x m).ctl.mods[m] = ModuleComp.takeOver x.ctl.params.relax { x.ctl.mods[m] with rect := none } := by
      show (Controller.modModule ((x.ctl.retire x.ctl.phase.serving m).settle m) m _).mods[m] = _
      rw [modModule_self, settle_mods, retire_new]
    rw [hpar, hmod]
    exact ⟨rfl, rfl, rfl, rfl, rfl, rfl⟩
  · have hmod : (cut a x m).ctl.mods[f] = { x.ctl.mods[f].unity with rect := none } := by
      show (Controller.modModule ((x.ctl.retire x.ctl.phase.serving m).settle m) m _).mods[f] = _
      rw [modModule_ne (Ne.symm hne), settle_mods, hf, retire_self _ hne]
    unfold Controller.unityAt
    rw [hmod]
    exact ⟨rfl, rfl, rfl⟩

end

/-! ### The Controller as the hand-off stage takes it -/

/-- The Controller as the hand-off stage of an advance takes it, with the events of the zoom stage. -/
def entered (s : State) (a : Advance) : Staged := readied s (zoomStage a s.ctl.transfer)

section
variable {s : State} {a : Advance}

theorem entered_keeps (s : State) (a : Advance) :
    (entered s a).ctl.phase = s.ctl.phase ∧ (entered s a).ctl.direction = s.ctl.direction
      ∧ (entered s a).ctl.k = s.ctl.k ∧ (entered s a).ctl.fadeInUse = s.ctl.fadeInUse
      ∧ (entered s a).ctl.unrefined = s.ctl.unrefined ∧ (entered s a).ctl.generation = s.ctl.generation
      ∧ (entered s a).ctl.prepareCounter = s.ctl.prepareCounter := by
  obtain ⟨h1, h2, h3, h4, -, h5, h6, -, h7, -⟩ := zoomStage_keeps a s.ctl
  exact ⟨h1, h2, h3, h4, h5, h6, h7⟩

/-- What the hand-off stage finds of a module's gain, relaxation, refinement and rectangle. -/
theorem entered_mods (s : State) (a : Advance) (m : ModuleId) :
    (entered s a).ctl.mods[m].gain = s.ctl.mods[m].gain ∧ (entered s a).ctl.mods[m].relaxStart = s.ctl.mods[m].relaxStart
      ∧ (entered s a).ctl.mods[m].relaxStep = s.ctl.mods[m].relaxStep ∧ (entered s a).ctl.mods[m].rx = s.ctl.mods[m].rx
      ∧ (entered s a).ctl.mods[m].ry = s.ctl.mods[m].ry ∧ (entered s a).ctl.mods[m].rect = s.ctl.mods[m].rect := by
  unfold entered
  rw [readied_mods]
  exact ⟨rfl, rfl, rfl, rfl, rfl, rfl⟩

theorem entered_same (s : State) (a : Advance) (m : ModuleId) : (entered s a).ctl.same s.ctl m := by
  obtain ⟨h1, -, -, h2, h3, -⟩ := entered_mods s a m
  exact ⟨h1, h2, h3⟩

theorem same_trans {c d e : Controller} {m : ModuleId} (h : c.same d m) (h' : d.same e m) : c.same e m := by
  obtain ⟨h1, h2, h3⟩ := h
  obtain ⟨g1, g2, g3⟩ := h'
  exact ⟨h1.trans g1, h2.trans g2, h3.trans g3⟩

theorem takesOver_entered {c : Controller} {m : ModuleId} (h : c.takesOver m (entered s a).ctl.mods[m].gain
    (entered s a).ctl.mods[m].rx (entered s a).ctl.mods[m].ry) :
    c.takesOver m s.ctl.mods[m].gain s.ctl.mods[m].rx s.ctl.mods[m].ry := by
  obtain ⟨h1, -, -, h2, h3, -⟩ := entered_mods s a m
  rw [h1, h2, h3] at h
  exact h

theorem lost_iff (s : State) (m : ModuleId) :
    lost s s.ctl m = true ↔ s.trackers[m].deadline = none ∨ s.ctl.mods[m].resetMark = true := by
  rw [lost, Bool.or_eq_true, Bool.not_eq_true', State.live, Option.isSome_eq_false_iff, Option.isNone_iff_eq_none]

/-- The zoom stage leaves the marks. -/
theorem lost_zoomStage (s : State) (a : Advance) : lost s (zoomStage a s.ctl.transfer).ctl = lost s s.ctl := by
  funext m
  have hz := (zoomStage_keeps a s.ctl).2.2.2.2.2.2.2.2.2 m.val m.isLt
  unfold lost
  rw [Fin.getElem_fin, hz]
  rfl

/-! ### Which stage an advance takes -/

/-- The hand-off stage, by the state it finds (R87). -/
theorem handoffStage_eq (s : State) (a : Advance) (x : Staged) : handoffStage s a x =
    match x.ctl.phase with
    | .starved o => starvedStage (lost s x.ctl) a (readied s x) o
    | .steady m => steadyStage s (lost s x.ctl) a (readied s x) m
    | .preparing m n => preparingStage s (lost s x.ctl) a (readied s x) m n
    | .fading m n => fadingStage (lost s x.ctl) a (readied s x) m n := rfl

theorem advance_of_fading {sm im : ModuleId} (hp : s.ctl.phase = .fading sm im) (a : Advance) :
    advanceStages s a = levelStage a none (fadingStage (lost s s.ctl) a (entered s a) sm im) := by
  have hz : (zoomStage a s.ctl.transfer).ctl.phase = .fading sm im := (zoomStage_keeps a s.ctl).1.trans hp
  have hb : staysSteady s (zoomStage a s.ctl.transfer).ctl = none := by rw [staysSteady, hz]
  have hh : handoffStage s a (zoomStage a s.ctl.transfer) = fadingStage (lost s s.ctl) a (entered s a) sm im := by
    rw [handoffStage_eq, hz, lost_zoomStage]
    rfl
  rw [advanceStages, hb, hh]

theorem advance_of_starved {o : Option ModuleId} (hp : s.ctl.phase = .starved o) (a : Advance) :
    advanceStages s a = levelStage a none (starvedStage (lost s s.ctl) a (entered s a) o) := by
  have hz : (zoomStage a s.ctl.transfer).ctl.phase = .starved o := (zoomStage_keeps a s.ctl).1.trans hp
  have hb : staysSteady s (zoomStage a s.ctl.transfer).ctl = none := by rw [staysSteady, hz]
  have hh : handoffStage s a (zoomStage a s.ctl.transfer) = starvedStage (lost s s.ctl) a (entered s a) o := by
    rw [handoffStage_eq, hz, lost_zoomStage]
    rfl
  rw [advanceStages, hb, hh]

theorem advance_of_preparing {sm im : ModuleId} (hp : s.ctl.phase = .preparing sm im) (a : Advance) :
    advanceStages s a = levelStage a none (preparingStage s (lost s s.ctl) a (entered s a) sm im) := by
  have hz : (zoomStage a s.ctl.transfer).ctl.phase = .preparing sm im := (zoomStage_keeps a s.ctl).1.trans hp
  have hb : staysSteady s (zoomStage a s.ctl.transfer).ctl = none := by rw [staysSteady, hz]
  have hh : handoffStage s a (zoomStage a s.ctl.transfer) = preparingStage s (lost s s.ctl) a (entered s a) sm im := by
    rw [handoffStage_eq, hz, lost_zoomStage]
    rfl
  rw [advanceStages, hb, hh]

theorem advance_of_steady {sm : ModuleId} (hp : s.ctl.phase = .steady sm) (a : Advance) :
    advanceStages s a = levelStage a (if lost s s.ctl sm then none else some sm)
      (steadyStage s (lost s s.ctl) a (entered s a) sm) := by
  have hz : (zoomStage a s.ctl.transfer).ctl.phase = .steady sm := (zoomStage_keeps a s.ctl).1.trans hp
  have hb : staysSteady s (zoomStage a s.ctl.transfer).ctl = if lost s s.ctl sm then none else some sm := by
    rw [staysSteady, hz, lost_zoomStage]
  have hh : handoffStage s a (zoomStage a s.ctl.transfer) = steadyStage s (lost s s.ctl) a (entered s a) sm := by
    rw [handoffStage_eq, hz, lost_zoomStage]
    rfl
  rw [advanceStages, hb, hh]

section
variable {x : Staged} {b : Option ModuleId} {m n : ModuleId}

theorem levelStage_of_fading (h : x.ctl.phase = .fading m n) (b : Option ModuleId) :
    levelStage a b x = fadeStep a x m n := by rw [levelStage, h]

theorem levelStage_of_steady (h : x.ctl.phase = .steady m) : levelStage a none x = x := by
  rw [levelStage, h]
  exact if_neg nofun

theorem levelStage_of_starved {o : Option ModuleId} (h : x.ctl.phase = .starved o) (b : Option ModuleId) :
    levelStage a b x = x := by rw [levelStage, h]

theorem levelStage_of_preparing (h : x.ctl.phase = .preparing m n) (b : Option ModuleId) : levelStage a b x = x := by
  rw [levelStage, h]

end

/-! ### What an advance shows of its hand-off -/

/-- An event of the hand-off shows after the advance. -/
def Shown (s : State) (a : Advance) (kind : Fin 16) (m : ModuleId) (reason : Nat) : Prop :=
  (s.advance a).agent.events[kind].flag = true ∧ (s.advance a).agent.events[kind].detail =
    { subject := m.val, second := a.view.val, frame := a.frame, time := timeLow s.time, reason := reason }

/-- No event of a transition is raised. -/
def Quiet (s : State) (a : Advance) : Prop :=
  ∀ kind : Fin 16, kind = 0 ∨ kind = 1 ∨ kind = 2 ∨ kind = 5 → (s.advance a).agent.events[kind] = s.agent.events[kind]

theorem shown_of_raised (hf : s.ctl.frozen = false) {k : EventKind} {m : ModuleId} {n : Nat} {as rs : List Raise}
    (he : (advanceStages s a).raised = as ++ a.event k m.val n :: rs) (hr : ∀ x ∈ rs, x.kind.index ≠ k.index) :
    Shown s a k.index m n :=
  advance_shows hf (r := a.event k m.val n) he hr

theorem shown_of_last (hf : s.ctl.frozen = false) {k : EventKind} {m : ModuleId} {n : Nat} {as : List Raise}
    (he : (advanceStages s a).raised = as ++ [a.event k m.val n]) : Shown s a k.index m n :=
  shown_of_raised hf he nofun

theorem quiet_of_raised (hf : s.ctl.frozen = false) (he : (advanceStages s a).raised = (entered s a).raised) :
    Quiet s a := by
  intro kind hk
  refine advance_silent hf fun r hr => ?_
  rw [he] at hr
  obtain h | h := zoomStage_raised a _ r hr
  · rw [h]
    rintro rfl
    revert hk
    decide
  · rw [h]
    rintro rfl
    revert hk
    decide

theorem quiet_of_eq (hf : s.ctl.frozen = false) {x : Staged} (hz : advanceStages s a = x)
    (hx : x.raised = (entered s a).raised) : Quiet s a := quiet_of_raised hf ((congrArg Staged.raised hz).trans hx)

end

end Sys2Proof.Machine
end

section
/-! The hand-off of an advance in each state (R92 to R103). -/

namespace Sys2Proof.Machine

-- Declaration after declaration: elaborated side by side, those of the joined text need more memory than the check has.
set_option Elab.async false

section
variable {s : State} {a : Advance} {sm im m : ModuleId}

/-- What the stages after the zoom stage only read is as the hand-off stage finds it. -/
theorem advance_reads (s : State) (a : Advance) :
    (advanceStages s a).ctl.candidate = (entered s a).ctl.candidate
      ∧ (advanceStages s a).ctl.forced = (entered s a).ctl.forced
      ∧ (advanceStages s a).ctl.params = (entered s a).ctl.params
      ∧ (advanceStages s a).ctl.zq = (entered s a).ctl.zq
      ∧ (advanceStages s a).ctl.field = (entered s a).ctl.field
      ∧ ∀ m : ModuleId, (advanceStages s a).ctl.mods[m].calibration = (entered s a).ctl.mods[m].calibration := by
  obtain ⟨h1, -, h2, -, -, -, -, h3, -, h4, -, h5, -⟩ := kept_fields (kept_advanceStages s a)
  exact ⟨h4, h3, h5, h2, h1, fun m => (kept_mods (kept_advanceStages s a) m.val m.isLt).1⟩

/-! ### FADING (R101, R102) -/

/-- Whether the zoom lies in a module's band (R101). -/
def Controller.inBandAt (c : Controller) (m : ModuleId) : Prop :=
  c.mods[m].calibration.lo ≤ c.zq ∧ c.zq ≤ c.mods[m].calibration.hi

theorem inBand_iff (c : Controller) (m : ModuleId) : inBand c m = true ↔ c.inBandAt m := by
  rw [inBand, Bool.and_eq_true, decide_eq_true_eq, decide_eq_true_eq]
  rfl

theorem inBandAt_advance (s : State) (a : Advance) (m : ModuleId) :
    (advanceStages s a).ctl.inBandAt m ↔ (entered s a).ctl.inBandAt m := by
  obtain ⟨-, -, -, hz, -, hcal⟩ := advance_reads s a
  unfold Controller.inBandAt
  rw [hz, hcal]

/-- The direction of a fade after its turn, if it takes one (R101). -/
def nextDirection (c : Controller) (sm im : ModuleId) : Direction :=
  if c.direction = .forward ∧ inBand c sm ∧ c.candidate = some sm then .returning
  else if c.direction = .returning ∧ ¬inBand c sm ∧ c.candidate = some im then .forward
  else c.direction

theorem nextDirection_forward (c : Controller) (sm im : ModuleId) : nextDirection c sm im = .forward ↔
    c.direction = .forward ∧ ¬(c.inBandAt sm ∧ c.candidate = some sm)
      ∨ c.direction = .returning ∧ ¬c.inBandAt sm ∧ c.candidate = some im := by
  have hiff := inBand_iff c sm
  unfold nextDirection
  cases hd : c.direction <;> by_cases hb : c.inBandAt sm <;> simp only [hb, iff_true, iff_false] at hiff
    <;> simp [hb, hiff]

theorem direction_returning {d : Direction} (h : d ≠ .forward) : d = .returning := by
  cases d
  · exact absurd rfl h
  · rfl

/-- With neither module lost a fade only turns. -/
theorem fadingStage_turns {l : ModuleId → Bool} (hi : l im = false) (hs : l sm = false) (x : Staged) :
    fadingStage l a x sm im = { x with ctl := { x.ctl with direction := nextDirection x.ctl sm im } } := by
  unfold fadingStage nextDirection
  rw [hi, hs, if_neg Bool.false_ne_true, if_neg Bool.false_ne_true]
  split
  · rfl
  · split <;> rfl

/-- The stage with the fade at counter `k` (R102). -/
def Staged.stepTo (x : Staged) (k : Nat) : Staged :=
  { x with ctl := { x.ctl with k := k, alpha := fadeLevel k x.ctl.fadeInUse } }

theorem fadeStep_forward {x : Staged} (h : x.ctl.direction = .forward) : fadeStep a x sm im =
    if x.ctl.fadeInUse ≤ x.ctl.k + 1 then completeFade a (x.stepTo (x.ctl.k + 1)) sm im reasonFaded
    else x.stepTo (x.ctl.k + 1) := by
  unfold fadeStep
  rw [h]
  rfl

theorem fadeStep_returning {x : Staged} (h : x.ctl.direction = .returning) : fadeStep a x sm im =
    if x.ctl.k - 1 = 0 then leaveFade a (x.stepTo (x.ctl.k - 1)) sm im reasonReturned else x.stepTo (x.ctl.k - 1) := by
  unfold fadeStep
  rw [h]
  rfl

/-- The stage that a fade in progress is stepped from. -/
def turned (s : State) (a : Advance) (d : Direction) : Staged :=
  { entered s a with ctl := { (entered s a).ctl with direction := d } }

/-- A fade with neither module lost is stepped in its next direction. -/
theorem advance_fades (hp : s.ctl.phase = .fading sm im) (hi : lost s s.ctl im = false) (hs : lost s s.ctl sm = false) :
    advanceStages s a = fadeStep a (turned s a (nextDirection (entered s a).ctl sm im)) sm im := by
  have hx : (turned s a (nextDirection (entered s a).ctl sm im)).ctl.phase = .fading sm im :=
    (entered_keeps s a).1.trans hp
  rw [advance_of_fading hp, fadingStage_turns hi hs]
  exact levelStage_of_fading hx none

/-- I lost: the fade is left (R101, case 1). -/
theorem fading_lostIncoming (hf : s.ctl.frozen = false) (hp : s.ctl.phase = .fading sm im) (hne : sm ≠ im)
    (hi : lost s s.ctl im = true) :
    (advanceStages s a).ctl.steadyAt sm ∧ (advanceStages s a).ctl.unityAt im ∧ (advanceStages s a).ctl.same s.ctl sm
      ∧ Shown s a 1 im 0 := by
  have hz : advanceStages s a = leaveFade a (entered s a) sm im reasonStale := by
    rw [advance_of_fading hp, fadingStage, if_pos hi]
    exact levelStage_of_steady rfl
  obtain ⟨h1, h2, h3⟩ := leaveFade_takes (a := a) (x := entered s a) hne reasonStale
  rw [← hz] at h1 h2 h3
  exact ⟨h1, h2, same_trans h3 (entered_same s a sm), shown_of_last (k := .handoffAbandoned) hf (congrArg Staged.raised hz)⟩

/-- S lost: the fade completes at once (R101, case 2). -/
theorem fading_lostServing (hf : s.ctl.frozen = false) (hp : s.ctl.phase = .fading sm im) (hne : sm ≠ im)
    (hi : lost s s.ctl im = false) (hs : lost s s.ctl sm = true) :
    (advanceStages s a).ctl.steadyAt im ∧ (advanceStages s a).ctl.unityAt sm
      ∧ (advanceStages s a).ctl.takesOver im s.ctl.mods[im].gain s.ctl.mods[im].rx s.ctl.mods[im].ry
      ∧ Shown s a 0 im 2 := by
  have hz : advanceStages s a = completeFade a (entered s a) sm im reasonEarly := by
    rw [advance_of_fading hp, fadingStage, hi, if_neg Bool.false_ne_true, if_pos hs]
    exact levelStage_of_steady rfl
  obtain ⟨h1, h2, h3⟩ := completeFade_takes (a := a) (x := entered s a) hne reasonEarly
  rw [← hz] at h1 h2 h3
  exact ⟨h1, h2, takesOver_entered h3, shown_of_last (k := .handoffDone) hf (congrArg Staged.raised hz)⟩

/-- A step that neither completes nor returns. -/
theorem fading_stepped (hf : s.ctl.frozen = false) (hp : s.ctl.phase = .fading sm im) {d : Direction} {k : Nat}
    (hz : advanceStages s a = (turned s a d).stepTo k) :
    (advanceStages s a).ctl.phase = .fading sm im ∧ (advanceStages s a).ctl.direction = d
      ∧ (advanceStages s a).ctl.k = k
      ∧ (advanceStages s a).ctl.alpha = (512 * k + s.ctl.fadeInUse) / (2 * s.ctl.fadeInUse)
      ∧ (advanceStages s a).ctl.unrefined = s.ctl.unrefined ∧ Quiet s a
      ∧ ∀ m, (advanceStages s a).ctl.same s.ctl m := by
  obtain ⟨h1, -, -, h2, h3, -, -⟩ := entered_keeps s a
  refine ⟨?_, ?_, ?_, ?_, ?_, quiet_of_eq hf hz rfl, fun m => ?_⟩
  · rw [hz]; exact h1.trans hp
  · rw [hz]; rfl
  · rw [hz]; rfl
  · rw [hz, ← h2]; rfl
  · rw [hz]; exact h3
  · rw [hz]; exact entered_same s a m

theorem fading_forward (hf : s.ctl.frozen = false) (hp : s.ctl.phase = .fading sm im) (hne : sm ≠ im)
    (hi : lost s s.ctl im = false) (hs : lost s s.ctl sm = false) (hd : nextDirection (entered s a).ctl sm im = .forward) :
    (s.ctl.k + 1 < s.ctl.fadeInUse → advanceStages s a = (turned s a .forward).stepTo (s.ctl.k + 1))
      ∧ (s.ctl.fadeInUse ≤ s.ctl.k + 1 → (advanceStages s a).ctl.steadyAt im ∧ (advanceStages s a).ctl.unityAt sm
        ∧ (advanceStages s a).ctl.takesOver im s.ctl.mods[im].gain s.ctl.mods[im].rx s.ctl.mods[im].ry
        ∧ Shown s a 0 im 1) := by
  obtain ⟨-, -, hk, hn, -⟩ := entered_keeps s a
  have hz := advance_fades (a := a) hp hi hs
  rw [hd, fadeStep_forward rfl] at hz
  have hcond : (turned s a .forward).ctl.fadeInUse ≤ (turned s a .forward).ctl.k + 1
      ↔ s.ctl.fadeInUse ≤ s.ctl.k + 1 := by rw [← hk, ← hn]; rfl
  refine ⟨fun h => ?_, fun h => ?_⟩
  · rw [if_neg (hcond.not.2 (Nat.not_le.2 h))] at hz
    rw [hz, ← hk]
    rfl
  · rw [if_pos (hcond.2 h)] at hz
    obtain ⟨h1, h2, h3⟩ := completeFade_takes (a := a)
      (x := (turned s a .forward).stepTo ((turned s a .forward).ctl.k + 1)) hne reasonFaded
    rw [← hz] at h1 h2 h3
    exact ⟨h1, h2, takesOver_entered h3, shown_of_last (k := .handoffDone) hf (congrArg Staged.raised hz)⟩

theorem fading_returning (hf : s.ctl.frozen = false) (hp : s.ctl.phase = .fading sm im) (hne : sm ≠ im)
    (hi : lost s s.ctl im = false) (hs : lost s s.ctl sm = false) (hd : nextDirection (entered s a).ctl sm im ≠ .forward) :
    (1 < s.ctl.k → advanceStages s a = (turned s a .returning).stepTo (s.ctl.k - 1))
      ∧ (s.ctl.k ≤ 1 → (advanceStages s a).ctl.steadyAt sm ∧ (advanceStages s a).ctl.unityAt im
        ∧ (advanceStages s a).ctl.same s.ctl sm ∧ Shown s a 1 im 2) := by
  obtain ⟨-, -, hk, -⟩ := entered_keeps s a
  have hz := advance_fades (a := a) hp hi hs
  rw [direction_returning hd, fadeStep_returning rfl] at hz
  have hcond : (turned s a .returning).ctl.k - 1 = 0 ↔ s.ctl.k ≤ 1 := by
    rw [← hk]
    exact Nat.sub_eq_zero_iff_le
  refine ⟨fun h => ?_, fun h => ?_⟩
  · rw [if_neg (hcond.not.2 (Nat.not_le.2 h))] at hz
    rw [hz, ← hk]
    rfl
  · rw [if_pos (hcond.2 h)] at hz
    obtain ⟨h1, h2, h3⟩ := leaveFade_takes (a := a)
      (x := (turned s a .returning).stepTo ((turned s a .returning).ctl.k - 1)) hne reasonReturned
    rw [← hz] at h1 h2 h3
    exact ⟨h1, h2, same_trans h3 (entered_same s a sm),
      shown_of_last (k := .handoffAbandoned) hf (congrArg Staged.raised hz)⟩

/-! ### Cuts and STARVED (R92 to R94) -/

/-- A cut to a module from a former serving module (R94). -/
def CutTo (s : State) (a : Advance) (former : Option ModuleId) (m : ModuleId) : Prop :=
  (advanceStages s a).ctl.steadyAt m
    ∧ (advanceStages s a).ctl.takesOver m s.ctl.mods[m].gain s.ctl.mods[m].rx s.ctl.mods[m].ry
    ∧ Shown s a 0 m 0 ∧ ∀ f, former = some f → f ≠ m → (advanceStages s a).ctl.unityAt f

theorem cutTo_of_cut (hf : s.ctl.frozen = false) {x : Staged} (hx : x.ctl = (entered s a).ctl)
    (hz : advanceStages s a = cut a x m) : CutTo s a s.ctl.phase.serving m := by
  obtain ⟨h1, h2, h3⟩ := cut_takes a x m
  rw [hx] at h2 h3
  rw [(entered_keeps s a).1] at h3
  rw [← hz] at h1 h2 h3
  exact ⟨h1, takesOver_entered h2, shown_of_last (k := .handoffDone) hf (congrArg Staged.raised hz), h3⟩

/-- S is lost with no candidate at hand (R93). -/
def Starves (s : State) (a : Advance) (sm : ModuleId) : Prop :=
  (advanceStages s a).ctl.phase = .starved (some sm) ∧ (advanceStages s a).ctl.alpha = 0
    ∧ (∀ m : ModuleId, (advanceStages s a).ctl.mods[m].rect = none) ∧ Shown s a 5 sm 0

/-- A lost S gives way: a cut to the candidate, or STARVED (R93). -/
theorem giveWay_takes (hf : s.ctl.frozen = false) {x : Staged} (hx : x.ctl = (entered s a).ctl)
    (hz : advanceStages s a = levelStage a none (giveWay a x sm)) :
    (∀ m, (advanceStages s a).ctl.candidate = some m → CutTo s a s.ctl.phase.serving m)
      ∧ ((advanceStages s a).ctl.candidate = none → Starves s a sm) := by
  rw [(advance_reads s a).1, ← hx]
  refine ⟨fun m hm => ?_, fun hn => ?_⟩
  · rw [giveWay, hm] at hz
    exact cutTo_of_cut hf hx (hz.trans (levelStage_of_steady rfl))
  · rw [giveWay, hn] at hz
    have hz' := hz.trans (levelStage_of_starved rfl none)
    refine ⟨by rw [hz']; rfl, by rw [hz']; rfl, fun m => ?_, shown_of_last (k := .starved) hf (congrArg Staged.raised hz')⟩
    rw [hz']
    show (Controller.clearRects _).mods[m].rect = none
    rw [clearRects_mods]

/-- A lost S, or none, stays without a cut only with no candidate (R92). -/
theorem starved_lost {o : Option ModuleId} (hf : s.ctl.frozen = false) (hp : s.ctl.phase = .starved o)
    (hl : ∀ m, o = some m → lost s s.ctl m = true) :
    (∀ m, (advanceStages s a).ctl.candidate = some m → CutTo s a o m)
      ∧ ((advanceStages s a).ctl.candidate = none → advanceStages s a = entered s a) := by
  have hphase : (entered s a).ctl.phase = .starved o := (entered_keeps s a).1.trans hp
  have hst : starvedStage (lost s s.ctl) a (entered s a) o =
      (entered s a).ctl.candidate.elim (entered s a) (cut a (entered s a)) := by
    unfold starvedStage
    cases o with
    | none => cases (entered s a).ctl.candidate <;> rfl
    | some m =>
      dsimp only
      rw [if_pos (hl m rfl)]
      cases (entered s a).ctl.candidate <;> rfl
  have hserv : s.ctl.phase.serving = o := by rw [hp]; rfl
  rw [(advance_reads s a).1]
  refine ⟨fun m hm => ?_, fun hn => ?_⟩
  · rw [hm] at hst
    have hz : advanceStages s a = cut a (entered s a) m := by
      rw [advance_of_starved hp, hst]
      exact levelStage_of_steady rfl
    rw [← hserv]
    exact cutTo_of_cut hf rfl hz
  · rw [hn, Option.elim_none] at hst
    rw [advance_of_starved hp, hst]
    exact levelStage_of_starved hphase none

/-- S serves again (R92). -/
theorem starved_recovers (hp : s.ctl.phase = .starved (some m)) (hl : lost s s.ctl m = false) :
    advanceStages s a = { entered s a with ctl := { (entered s a).ctl with phase := .steady m } } := by
  rw [advance_of_starved hp, starvedStage]
  dsimp only
  rw [hl, if_neg Bool.false_ne_true]
  exact levelStage_of_steady rfl

/-! ### The beginning of a preparation (R95, R96) -/

/-- The rectangle of a module at the zoom and the calibrations of a Controller (R96). -/
def rectOf (s : State) (a : Advance) (c : Controller) (m : ModuleId) (rx ry : Int) : Rect :=
  profileRect (s.ctl.generation + 1) c.field.width c.zq s.comp.views[a.view].width s.comp.views[a.view].height
    c.mods[m].calibration (newestFocus s m) rx ry

/-- A hand-off toward a module begun or begun again (R95, R96). -/
def Begins (s : State) (a : Advance) (sm im : ModuleId) : Prop :=
  (advanceStages s a).ctl.phase = .preparing sm im ∧ (advanceStages s a).ctl.generation = s.ctl.generation + 1
    ∧ (advanceStages s a).ctl.prepareCounter = 0 ∧ Quiet s a
    ∧ (advanceStages s a).ctl.mods[im].rx = 0 ∧ (advanceStages s a).ctl.mods[im].ry = 0
    ∧ (∀ m : ModuleId, (advanceStages s a).ctl.mods[m].gain = s.ctl.mods[m].gain)
    ∧ (advanceStages s a).ctl.mods[sm].rect
        = some (rectOf s a (advanceStages s a).ctl sm s.ctl.mods[sm].rx s.ctl.mods[sm].ry)
    ∧ (advanceStages s a).ctl.mods[im].rect = some (rectOf s a (advanceStages s a).ctl im 0 0)
    ∧ ∀ m : ModuleId, m ≠ sm → m ≠ im → (advanceStages s a).ctl.mods[m].rect = none

theorem begins_of_beginHandoff (hf : s.ctl.frozen = false) (hne : sm ≠ im)
    (hz : advanceStages s a = { entered s a with ctl := beginHandoff s a (entered s a).ctl sm im }) : Begins s a sm im := by
  obtain ⟨-, -, -, -, -, hgen, -⟩ := entered_keeps s a
  obtain ⟨-, -, -, hzq, hfield, hcal⟩ := advance_reads s a
  have hrect : ∀ m rx ry, rectOf s a (advanceStages s a).ctl m rx ry = profileRect ((entered s a).ctl.generation + 1)
      (entered s a).ctl.field.width (entered s a).ctl.zq s.comp.views[a.view].width s.comp.views[a.view].height
      (entered s a).ctl.mods[m].calibration (newestFocus s m) rx ry := fun m rx ry => by
    rw [rectOf, hgen, hzq, hfield, hcal]
  have hctl : (advanceStages s a).ctl = beginHandoff s a (entered s a).ctl sm im := congrArg Staged.ctl hz
  obtain ⟨g1, -, -, r1, r2, -⟩ := entered_mods s a sm
  have hsm : (advanceStages s a).ctl.mods[sm] =
      { (entered s a).ctl.mods[sm] with
        rect := some (rectOf s a (advanceStages s a).ctl sm s.ctl.mods[sm].rx s.ctl.mods[sm].ry) } := by
    rw [hrect, hctl, ← r1, ← r2]
    show (Controller.modModule (Controller.modModule _ sm _) im _).mods[sm] = _
    rw [modModule_ne (Ne.symm hne), modModule_self, clearRects_mods]
  have him : (advanceStages s a).ctl.mods[im] =
      { (entered s a).ctl.mods[im] with rect := some (rectOf s a (advanceStages s a).ctl im 0 0), rx := 0, ry := 0 } := by
    rw [hrect, hctl]
    show (Controller.modModule (Controller.modModule _ sm _) im _).mods[im] = _
    rw [modModule_self, modModule_ne hne, clearRects_mods]
  have hother : ∀ m, m ≠ sm → m ≠ im →
      (advanceStages s a).ctl.mods[m] = { (entered s a).ctl.mods[m] with rect := none } := fun m h1 h2 => by
    rw [hctl]
    show (Controller.modModule (Controller.modModule _ sm _) im _).mods[m] = _
    rw [modModule_ne (Ne.symm h2), modModule_ne (Ne.symm h1), clearRects_mods]
  refine ⟨by rw [hctl]; rfl, by rw [hctl, ← hgen]; rfl, by rw [hctl]; rfl,
    quiet_of_eq hf hz rfl, by rw [him], by rw [him], fun m => ?_, by rw [hsm], by rw [him],
    fun m h1 h2 => by rw [hother m h1 h2]⟩
  rw [← (entered_mods s a m).1]
  by_cases h1 : m = sm
  · rw [h1, hsm]
  · by_cases h2 : m = im
    · rw [h2, him]
    · rw [hother m h1 h2]

/-! ### STEADY (R93, R103) -/

/-- Whether a hand-off toward a module is due in STEADY (R83, R93). -/
def Due (c : Controller) (sm m : ModuleId) : Prop :=
  m ≠ sm ∧ c.candidate = some m
    ∧ (c.mods[sm].calibration.hi + c.params.hysteresis < c.zq ∨ c.zq < c.mods[sm].calibration.lo ∨ c.forced = some m)

theorem due_advance (s : State) (a : Advance) (sm m : ModuleId) :
    Due (advanceStages s a).ctl sm m ↔ Due (entered s a).ctl sm m := by
  obtain ⟨h1, h2, h3, h4, -, h5⟩ := advance_reads s a
  unfold Due
  rw [h1, h2, h3, h4, h5]

theorem due_iff (c : Controller) (sm m : ModuleId) :
    Due c sm m ↔ c.candidate = some m ∧ m ≠ sm ∧ (outgrown c sm ∨ c.forced = some m) := by
  unfold Due outgrown
  rw [Bool.or_eq_true, decide_eq_true_eq, decide_eq_true_eq, or_assoc]
  tauto

theorem steady_lost (hf : s.ctl.frozen = false) (hp : s.ctl.phase = .steady sm) (hl : lost s s.ctl sm = true) :
    (∀ m, (advanceStages s a).ctl.candidate = some m → CutTo s a (some sm) m)
      ∧ ((advanceStages s a).ctl.candidate = none → Starves s a sm) := by
  have hserv : s.ctl.phase.serving = some sm := by rw [hp]; rfl
  rw [← hserv]
  refine giveWay_takes hf (x := entered s a) rfl ?_
  rw [advance_of_steady hp, if_pos hl, steadyStage, if_pos hl]

theorem steady_begins (hf : s.ctl.frozen = false) (hp : s.ctl.phase = .steady sm) (hl : lost s s.ctl sm = false)
    (hd : Due (advanceStages s a).ctl sm m) : Begins s a sm m := by
  rw [due_advance, due_iff] at hd
  obtain ⟨hc, hne, hd⟩ := hd
  refine begins_of_beginHandoff hf (Ne.symm hne) ?_
  rw [advance_of_steady hp, steadyStage, hl, if_neg Bool.false_ne_true, if_neg Bool.false_ne_true, hc]
  dsimp only
  rw [if_pos ⟨hne, hd⟩]
  exact levelStage_of_preparing rfl _

/-- With nothing due S's gain is relaxed (R103). -/
theorem steady_relaxes (hp : s.ctl.phase = .steady sm) (hl : lost s s.ctl sm = false)
    (hd : ∀ m, ¬Due (advanceStages s a).ctl sm m) :
    advanceStages s a =
      { entered s a with ctl := (entered s a).ctl.modModule sm (.relax (entered s a).ctl.params.relax) } := by
  have hst : steadyStage s (lost s s.ctl) a (entered s a) sm = entered s a := by
    rw [steadyStage, hl, if_neg Bool.false_ne_true]
    split
    · rename_i m hc
      refine if_neg fun h => hd m ?_
      rw [due_advance, due_iff]
      exact ⟨hc, h⟩
    · rfl
  have hphase : (entered s a).ctl.phase = .steady sm := (entered_keeps s a).1.trans hp
  rw [advance_of_steady hp, hst, hl, if_neg Bool.false_ne_true, levelStage, hphase]
  exact if_pos rfl

/-- One relaxation step (R103). -/
theorem relax_gain (l : Nat) (x : ModuleComp) :
    (x.gain = 16384 → x.relax l = x)
      ∧ (x.gain ≠ 16384 → l = 0 ∨ l ≤ x.relaxStep + 1 → x.relax l = { x with gain := 16384, relaxStep := l })
      ∧ (x.gain ≠ 16384 → l ≠ 0 → x.relaxStep + 1 < l → x.relax l =
          { x with
            relaxStep := x.relaxStep + 1
            gain := ((x.relaxStart : Int)
              + roundHalfAway ((16384 - (x.relaxStart : Int)) * ((x.relaxStep + 1 : Nat) : Int)) l).toNat }) := by
  unfold ModuleComp.relax
  refine ⟨fun h => if_pos h, fun h h' => ?_, fun h h0 h1 => ?_⟩
  · rw [if_neg h, if_pos h']
  · rw [if_neg h, if_neg (by omega)]

/-! ### PREPARING (R97 to R100) -/

/-- S lost with I at hand: a cut to I (R97, case 1). -/
theorem preparing_cut (hf : s.ctl.frozen = false) (hp : s.ctl.phase = .preparing sm im) (hs : lost s s.ctl sm = true)
    (hi : lost s s.ctl im = false) : CutTo s a (some sm) im := by
  have hserv : s.ctl.phase.serving = some sm := by rw [hp]; rfl
  rw [← hserv]
  refine cutTo_of_cut hf (x := entered s a) rfl ?_
  rw [advance_of_preparing hp, preparingStage, if_pos hs, hi, if_neg Bool.false_ne_true]
  exact levelStage_of_steady rfl

/-- Both lost: the hand-off is abandoned and S gives way (R97, case 1). -/
theorem preparing_bothLost (hf : s.ctl.frozen = false) (hp : s.ctl.phase = .preparing sm im) (hs : lost s s.ctl sm = true)
    (hi : lost s s.ctl im = true) :
    Shown s a 1 im 0 ∧ (∀ m, (advanceStages s a).ctl.candidate = some m → CutTo s a (some sm) m)
      ∧ ((advanceStages s a).ctl.candidate = none → Starves s a sm) := by
  have hserv : s.ctl.phase.serving = some sm := by rw [hp]; rfl
  have hz : advanceStages s a = levelStage a none
      (giveWay a ((entered s a).raise (a.event .handoffAbandoned im.val reasonStale)) sm) := by
    rw [advance_of_preparing hp, preparingStage, if_pos hs, if_pos hi]
  refine ⟨?_, hserv ▸ giveWay_takes hf (by rfl) hz⟩
  cases hc : ((entered s a).raise (a.event .handoffAbandoned im.val reasonStale)).ctl.candidate with
  | none =>
    rw [giveWay, hc] at hz
    have hr := congrArg Staged.raised (hz.trans (levelStage_of_starved rfl none))
    refine shown_of_raised (k := .handoffAbandoned) (as := (entered s a).raised)
      (rs := [a.event .starved sm.val 0]) hf (hr.trans (List.append_assoc ..)) fun r hr => ?_
    rw [List.mem_singleton.1 hr]
    exact (by decide : EventKind.starved.index ≠ EventKind.handoffAbandoned.index)
  | some m =>
    rw [giveWay, hc] at hz
    have hr := congrArg Staged.raised (hz.trans (levelStage_of_steady rfl))
    refine shown_of_raised (k := .handoffAbandoned) (as := (entered s a).raised)
      (rs := [a.event .handoffDone m.val reasonCut]) hf (hr.trans (List.append_assoc ..)) fun r hr => ?_
    rw [List.mem_singleton.1 hr]
    exact (by decide : EventKind.handoffDone.index ≠ EventKind.handoffAbandoned.index)

/-- I lost: S serves on (R97, case 2). -/
theorem preparing_abandoned (hf : s.ctl.frozen = false) (hp : s.ctl.phase = .preparing sm im)
    (hs : lost s s.ctl sm = false) (hi : lost s s.ctl im = true) :
    (advanceStages s a).ctl.steadyAt sm ∧ Shown s a 1 im 0 ∧ ∀ m, (advanceStages s a).ctl.same s.ctl m := by
  have hz : advanceStages s a = ({ entered s a with ctl := (entered s a).ctl.settle sm } : Staged).raise
      (a.event .handoffAbandoned im.val reasonStale) := by
    rw [advance_of_preparing hp, preparingStage, hs, if_neg Bool.false_ne_true, if_pos hi]
    exact levelStage_of_steady rfl
  have hctl : (advanceStages s a).ctl = (entered s a).ctl.settle sm := congrArg Staged.ctl hz
  rw [hctl]
  exact ⟨settle_steadyAt .., shown_of_last (k := .handoffAbandoned) hf (congrArg Staged.raised hz),
    fun m => same_trans (settle_same ..) (entered_same s a m)⟩

/-- With neither lost the candidate decides (R97, cases 3 to 5). -/
theorem advance_prepares (hp : s.ctl.phase = .preparing sm im) (hs : lost s s.ctl sm = false)
    (hi : lost s s.ctl im = false) : advanceStages s a = levelStage a none
      ((entered s a).ctl.candidate.elim { entered s a with ctl := (entered s a).ctl.settle sm } fun m =>
        if m = sm then { entered s a with ctl := (entered s a).ctl.settle sm }
        else if m = im then continuePreparation s a (entered s a) sm im
        else { entered s a with ctl := beginHandoff s a (entered s a).ctl sm m }) := by
  rw [advance_of_preparing hp, preparingStage, hs, hi, if_neg Bool.false_ne_true, if_neg Bool.false_ne_true]
  cases (entered s a).ctl.candidate <;> rfl

theorem preparing_withdrawn (hf : s.ctl.frozen = false) (hp : s.ctl.phase = .preparing sm im)
    (hs : lost s s.ctl sm = false) (hi : lost s s.ctl im = false)
    (hc : (advanceStages s a).ctl.candidate = none ∨ (advanceStages s a).ctl.candidate = some sm) :
    (advanceStages s a).ctl.steadyAt sm ∧ Quiet s a ∧ ∀ m, (advanceStages s a).ctl.same s.ctl m := by
  rw [(advance_reads s a).1] at hc
  have hz : advanceStages s a = { entered s a with ctl := (entered s a).ctl.settle sm } := by
    rw [advance_prepares hp hs hi]
    obtain hc | hc := hc
    · rw [hc]
      exact levelStage_of_steady rfl
    · rw [hc, Option.elim_some, if_pos rfl]
      exact levelStage_of_steady rfl
  have hctl : (advanceStages s a).ctl = (entered s a).ctl.settle sm := congrArg Staged.ctl hz
  rw [hctl]
  exact ⟨settle_steadyAt .., quiet_of_eq hf hz rfl,
    fun m => same_trans (settle_same ..) (entered_same s a m)⟩

theorem preparing_restarts (hf : s.ctl.frozen = false) (hp : s.ctl.phase = .preparing sm im)
    (hs : lost s s.ctl sm = false) (hi : lost s s.ctl im = false) (hc : (advanceStages s a).ctl.candidate = some m)
    (h1 : m ≠ sm) (h2 : m ≠ im) : Begins s a sm m := by
  rw [(advance_reads s a).1] at hc
  refine begins_of_beginHandoff hf (Ne.symm h1) ?_
  rw [advance_prepares hp hs hi, hc, Option.elim_some, if_neg h1, if_neg h2]
  exact levelStage_of_preparing rfl none

theorem advance_continues (hp : s.ctl.phase = .preparing sm im) (hne : sm ≠ im) (hs : lost s s.ctl sm = false)
    (hi : lost s s.ctl im = false) (hc : (advanceStages s a).ctl.candidate = some im) :
    advanceStages s a = levelStage a none (continuePreparation s a (entered s a) sm im) := by
  rw [(advance_reads s a).1] at hc
  rw [advance_prepares hp hs hi, hc, Option.elim_some, if_neg (Ne.symm hne), if_pos rfl]

/-- A fade entered, with its first step (R100, R102). -/
def Fades (s : State) (a : Advance) (sm im : ModuleId) (ratio : Nat) (rx ry : Int) (unrefined : Bool) : Prop :=
  let c := (advanceStages s a).ctl
  let gain := max 4096 (min 65535 ((2 * (s.ctl.mods[sm].gain * ratio) + 16384) / (2 * 16384)))
  (1 < c.params.fade → c.phase = .fading sm im ∧ c.direction = .forward ∧ c.k = 1
    ∧ c.fadeInUse = c.params.fade ∧ c.alpha = (512 + c.params.fade) / (2 * c.params.fade)
    ∧ c.unrefined = unrefined ∧ c.generation = s.ctl.generation ∧ (∀ m : ModuleId, c.mods[m].rect = none) ∧ c.same s.ctl sm
    ∧ c.mods[im].gain = gain ∧ c.mods[im].rx = rx ∧ c.mods[im].ry = ry)
  ∧ (c.params.fade ≤ 1 → c.steadyAt im ∧ c.unityAt sm ∧ c.takesOver im gain rx ry ∧ Shown s a 0 im 1)

section
variable {c : Controller} {g : Nat} {rx ry : Int} {u : Bool}

theorem enterFade_incoming (c : Controller) (sm im : ModuleId) (g : Nat) (rx ry : Int) (u : Bool) :
    (enterFade c sm im g rx ry u).mods[im] =
      { c.mods[im] with
        gain := clamp 4096 65535 (roundHalfUp (c.mods[sm].gain * g) 16384), rx := rx, ry := ry, rect := none } := by
  show (Controller.modModule (Controller.clearRects _) im _).mods[im] = _
  rw [modModule_self, clearRects_mods]

theorem enterFade_other (h : im ≠ m) : (enterFade c sm im g rx ry u).mods[m] = { c.mods[m] with rect := none } := by
  show (Controller.modModule (Controller.clearRects _) im _).mods[m] = _
  rw [modModule_ne h, clearRects_mods]

/-- A fade entered in the hand-off stage is stepped in the level stage. -/
theorem fades_of_enterFade (hf : s.ctl.frozen = false) (hne : sm ≠ im) {x : Staged}
    (hmods : c.mods = (entered s a).ctl.mods) (hpar : c.params = (entered s a).ctl.params)
    (hgen : c.generation = (entered s a).ctl.generation) (hx : x.ctl = enterFade c sm im g rx ry u)
    (hz : advanceStages s a = levelStage a none x) : Fades s a sm im g rx ry u := by
  obtain ⟨-, -, -, -, -, hg, -⟩ := entered_keeps s a
  have hpar' : (advanceStages s a).ctl.params = x.ctl.params := by
    rw [(advance_reads s a).2.2.1, hx, ← hpar]
    rfl
  have hgain : clamp 4096 65535 (roundHalfUp (c.mods[sm].gain * g) 16384)
      = max 4096 (min 65535 ((2 * (s.ctl.mods[sm].gain * g) + 16384) / (2 * 16384))) := by
    rw [clamp_eq_max_min (by decide), hmods, (entered_mods s a sm).1]
    rfl
  have him : x.ctl.mods[im] = _ := (congrArg (fun c : Controller => c.mods[im]) hx).trans (enterFade_incoming ..)
  have hother : ∀ m, im ≠ m → x.ctl.mods[m] = { (entered s a).ctl.mods[m] with rect := none } := fun m hm => by
    rw [hx, enterFade_other hm, hmods]
  have hstep := hz.trans (levelStage_of_fading (x := x) (m := sm) (n := im) (by rw [hx]; rfl) none)
  have hk : x.ctl.k = 0 := by rw [hx]; rfl
  have hn : x.ctl.fadeInUse = x.ctl.params.fade := by rw [hx]; rfl
  rw [fadeStep_forward (by rw [hx]; rfl), hk, hn, Nat.zero_add] at hstep
  unfold Fades
  dsimp only
  rw [hpar', ← hgain]
  refine ⟨fun h => ?_, fun h => ?_⟩
  · rw [if_neg (Nat.not_le.2 h)] at hstep
    have hctl : (advanceStages s a).ctl = (x.stepTo 1).ctl := congrArg Staged.ctl hstep
    have hmod : ∀ m : ModuleId, (x.stepTo 1).ctl.mods[m] = x.ctl.mods[m] := fun _ => rfl
    rw [hctl, hmod, him]
    refine ⟨by show x.ctl.phase = _; rw [hx]; rfl, by show x.ctl.direction = _; rw [hx]; rfl, rfl, hn, ?_,
      by show x.ctl.unrefined = _; rw [hx]; rfl, ?_, fun m => ?_, ?_, rfl, rfl, rfl⟩
    · show fadeLevel 1 x.ctl.fadeInUse = _
      rw [hn, fadeLevel, Nat.mul_one]
    · show x.ctl.generation = _
      rw [hx, ← hg, ← hgen]
      rfl
    · rw [hmod]
      by_cases hm : im = m
      · rw [← hm, him]
      · rw [hother m hm]
    · refine same_trans (d := (entered s a).ctl) ?_ (entered_same s a sm)
      unfold Controller.same
      rw [hmod, hother sm (Ne.symm hne)]
      exact ⟨rfl, rfl, rfl⟩
  · rw [if_pos h] at hstep
    obtain ⟨h1, h2, h3⟩ := completeFade_takes (a := a) (x := x.stepTo 1) hne reasonFaded
    rw [show (x.stepTo 1).ctl.mods[im] = x.ctl.mods[im] from rfl, him] at h3
    rw [← hstep] at h1 h2 h3
    exact ⟨h1, h2, h3, shown_of_last (k := .handoffDone) hf (congrArg Staged.raised hstep)⟩

end

end

end Sys2Proof.Machine
end

section
/-! The continuation of a preparation (R98, R99), and what the hand-off stage of an advance does in every state. -/

namespace Sys2Proof.Machine

-- Declaration after declaration: elaborated side by side, those of the joined text need more memory than the check has.
set_option Elab.async false

section
variable {s : State} {a : Advance} {sm im m : ModuleId} {x : Staged}

/-! ### The continuation of a preparation (R98, R99) -/

/-- The stage with the preparation counted once more. -/
def Staged.counted (x : Staged) : Staged :=
  { x with ctl := { x.ctl with prepareCounter := x.ctl.prepareCounter + 1 } }

theorem continuePreparation_success {r : RegResult} (hl : s.reg.last = some r)
    (hr : r.succeeds x.ctl.generation = true) :
    continuePreparation s a x sm im =
      { x with ctl := enterFade x.ctl sm im r.gRel r.outcome.refinement.1 r.outcome.refinement.2 false } := by
  unfold continuePreparation
  dsimp only
  rw [hl]
  exact if_pos hr

theorem continuePreparation_counts (h : ∀ r, s.reg.last = some r → r.succeeds x.ctl.generation = false) :
    continuePreparation s a x sm im =
      if x.ctl.params.prepare ≤ x.ctl.prepareCounter + 1 then prepareLimit s a x.counted sm im else x.counted := by
  unfold continuePreparation
  cases hl : s.reg.last with
  | none => rfl
  | some r => exact if_neg (by rw [h r hl]; decide)

/-- The preparation goes on by the result at hand or its lack. -/
theorem no_success (h : ∀ r, ¬(s.reg.last = some r ∧ r.outcome.failure = none ∧ r.generation = s.ctl.generation))
    (r : RegResult) (hr : s.reg.last = some r) : r.succeeds (entered s a).ctl.generation = false := by
  obtain ⟨-, -, -, -, -, hg, -⟩ := entered_keeps s a
  rw [hg, ← Bool.not_eq_true, succeeds_iff]
  exact fun h' => h r ⟨hr, h'⟩

theorem preparing_succeeds (hf : s.ctl.frozen = false) (hne : sm ≠ im)
    (hz : advanceStages s a = levelStage a none (continuePreparation s a (entered s a) sm im)) {r : RegResult} {h v : AxisFit}
    {rx ry : Int} (hl : s.reg.last = some r) (hr : r.generation = s.ctl.generation)
    (ho : r.outcome = .success h v rx ry) : Fades s a sm im r.gRel rx ry false := by
  obtain ⟨-, -, -, -, -, hg, -⟩ := entered_keeps s a
  have hs : r.succeeds (entered s a).ctl.generation = true := (succeeds_iff ..).2 ⟨by rw [ho]; rfl, hr.trans hg.symm⟩
  rw [continuePreparation_success hl hs, ho] at hz
  exact fades_of_enterFade hf hne (c := (entered s a).ctl) rfl rfl rfl rfl hz

/-- Below the limit only the counter changes. -/
theorem preparing_counts (hf : s.ctl.frozen = false) (hp : s.ctl.phase = .preparing sm im)
    (hz : advanceStages s a = levelStage a none (entered s a).counted) :
    (advanceStages s a).ctl.phase = .preparing sm im
      ∧ (advanceStages s a).ctl.prepareCounter = s.ctl.prepareCounter + 1
      ∧ (advanceStages s a).ctl.generation = s.ctl.generation ∧ Quiet s a
      ∧ ∀ m : ModuleId, (advanceStages s a).ctl.same s.ctl m
        ∧ (advanceStages s a).ctl.mods[m].rect = s.ctl.mods[m].rect := by
  obtain ⟨hph, -, -, -, -, hg, hc⟩ := entered_keeps s a
  have hphase : (entered s a).counted.ctl.phase = .preparing sm im := hph.trans hp
  have hz' := hz.trans (levelStage_of_preparing hphase none)
  have hctl : (advanceStages s a).ctl = (entered s a).counted.ctl := congrArg Staged.ctl hz'
  rw [hctl]
  refine ⟨hphase, ?_, hg, quiet_of_eq hf hz' rfl, fun m => ⟨entered_same s a m, (entered_mods s a m).2.2.2.2.2⟩⟩
  rw [← hc]
  rfl

/-- The ratio of the newest frames, as R124 has it. -/
theorem trailerRatio_eq (s : Option FrameRecord) (fi : FrameRecord) : trailerRatio s (some fi) =
    s.elim 16384 fun fs => max 4096 (min 65535 ((2 * (16384 * fs.duration * fs.gain) + fi.duration * fi.gain)
      / (2 * (fi.duration * fi.gain)))) := by
  cases s with
  | none => rfl
  | some fs => exact clamp_eq_max_min (by decide) _

theorem fadeStep_raised (h : x.ctl.direction = .forward) : (fadeStep a x sm im).raised = x.raised
    ∨ (fadeStep a x sm im).raised = x.raised ++ [a.event .handoffDone im.val reasonFaded] := by
  rw [fadeStep_forward h]
  split
  · exact .inr rfl
  · exact .inl rfl

/-- At the limit with a frame of I: the unrefined fallback (R99). -/
theorem preparing_falls (hf : s.ctl.frozen = false) (hne : sm ≠ im)
    (hz : advanceStages s a = levelStage a none (prepareLimit s a (entered s a).counted sm im)) {fi : FrameRecord}
    (hi : s.store.mods[im].newestRecord = some fi) :
    Fades s a sm im (trailerRatio s.store.mods[sm].newestRecord (some fi)) 0 0 true ∧ Shown s a 2 im 0 := by
  rw [prepareLimit, hi] at hz
  refine ⟨fades_of_enterFade hf hne (c := (entered s a).counted.ctl)
    (x := { ctl := enterFade _ sm im _ 0 0 true, raised := (entered s a).raised ++ [a.event .handoffUnrefined im.val 0] })
    rfl rfl rfl rfl hz, ?_⟩
  have hr := congrArg Staged.raised (hz.trans (levelStage_of_fading rfl none))
  obtain h | h := fadeStep_raised (a := a) (sm := sm) (im := im)
    (x := { ctl := enterFade (entered s a).counted.ctl sm im (trailerRatio s.store.mods[sm].newestRecord (some fi)) 0 0 true
            raised := (entered s a).raised ++ [a.event .handoffUnrefined im.val 0] }) rfl
  · exact shown_of_last (k := .handoffUnrefined) hf (hr.trans h)
  · refine shown_of_raised (k := .handoffUnrefined) hf ((hr.trans h).trans (List.append_assoc ..)) fun r hr => ?_
    rw [List.mem_singleton.1 hr]
    exact (by decide : EventKind.handoffDone.index ≠ EventKind.handoffUnrefined.index)

/-- At the limit with no frame of I: the hand-off is abandoned and I barred (R99). -/
theorem preparing_fails (hf : s.ctl.frozen = false)
    (hz : advanceStages s a = levelStage a none (prepareLimit s a (entered s a).counted sm im))
    (hi : s.store.mods[im].newestRecord = none) :
    (advanceStages s a).ctl.steadyAt sm ∧ Shown s a 1 im 1 ∧ (advanceStages s a).ctl.mods[im].barred = true
      ∧ ∀ m : ModuleId, (advanceStages s a).ctl.same s.ctl m := by
  rw [prepareLimit, hi] at hz
  have hz' := hz.trans (levelStage_of_steady (m := sm) rfl)
  have hctl : (advanceStages s a).ctl =
      ((entered s a).counted.ctl.settle sm).modModule im fun y => { y with barred := true } := congrArg Staged.ctl hz'
  rw [hctl]
  refine ⟨steadyAt_modModule (settle_steadyAt ..) fun _ => rfl,
    shown_of_last (k := .handoffAbandoned) hf (congrArg Staged.raised hz'), by rw [modModule_self], fun m => ?_⟩
  refine same_trans (d := (entered s a).ctl) ?_ (entered_same s a m)
  unfold Controller.same
  by_cases hm : im = m
  · rw [← hm, modModule_self, settle_mods]
    exact ⟨rfl, rfl, rfl⟩
  · rw [modModule_ne hm, settle_mods]
    exact ⟨rfl, rfl, rfl⟩

end

/-- Settles O59: each state's transitions, by the lemmas of that state. -/
theorem fadeStepTakes : Obligations.FadeStepTakes := by
  intro a s hf
  rw [advance_ctl hf]
  intro c events lost' raised quiet same unity noRects steady takesOver keeps cutTo inBand rect begins starves
  have hlost : ∀ m, lost' m → lost s s.ctl m = true := fun m h => (lost_iff s m).2 h
  have hfound : ∀ m, ¬lost' m → lost s s.ctl m = false := fun m h => Bool.not_eq_true _ ▸ (lost_iff s m).not.2 h
  have hrect : ∀ m rx ry, rectOf s a (advanceStages s a).ctl m rx ry = rect m rx ry := fun m rx ry => by
    unfold rectOf profileRect newestFocus
    rw [Option.elim_map, Option.elim_map]
    rfl
  have hbegins : ∀ sm im, Begins s a sm im → begins sm im := fun sm im h => by
    unfold Begins at h
    rw [hrect, hrect] at h
    exact h
  refine ⟨fun sm im hp hne => ?fading, fun o hp => ?starved, fun sm hp => ?steady, fun sm im hp hne => ?preparing⟩
  case fading =>
    intro forward n stepped
    have hforward : forward ↔ nextDirection (entered s a).ctl sm im = .forward := by
      rw [nextDirection_forward, ← inBandAt_advance, ← (advance_reads s a).1, (entered_keeps s a).2.1]
      rfl
    refine ⟨fun hi => ?_, fun hi hs => ?_, fun hi hs hd => ?_, fun hi hs hd => ?_⟩
    · exact fading_lostIncoming hf hp hne (hlost im hi)
    · exact fading_lostServing hf hp hne (hfound im hi) (hlost sm hs)
    · obtain ⟨h1, h2⟩ := fading_forward hf hp hne (hfound im hi) (hfound sm hs) (hforward.1 hd)
      exact ⟨fun hk => fading_stepped hf hp (h1 hk), h2⟩
    · obtain ⟨h1, h2⟩ := fading_returning hf hp hne (hfound im hi) (hfound sm hs) (hforward.not.1 hd)
      exact ⟨fun hk => fading_stepped hf hp (h1 hk), h2⟩
  case starved =>
    refine ⟨fun m hm hl => ?_, fun hl => ?_⟩
    · subst hm
      have hz := starved_recovers (a := a) hp (hfound m hl)
      have hctl : (advanceStages s a).ctl = { (entered s a).ctl with phase := .steady m } := congrArg Staged.ctl hz
      refine ⟨congrArg Controller.phase hctl, quiet_of_eq hf hz rfl, fun n => ?_⟩
      show (advanceStages s a).ctl.same s.ctl n
      rw [hctl]
      exact entered_same s a n
    · obtain ⟨h1, h2⟩ := starved_lost (a := a) hf hp fun m hm => hlost m (hl m hm)
      refine ⟨h1, fun hn => ?_⟩
      have hz := h2 hn
      refine ⟨(congrArg (·.ctl.phase) hz).trans ((entered_keeps s a).1.trans hp), quiet_of_eq hf hz rfl, fun n => ?_⟩
      show (advanceStages s a).ctl.same s.ctl n
      rw [hz]
      exact entered_same s a n
  case steady =>
    intro due start step
    refine ⟨fun hl => steady_lost hf hp (hlost sm hl), fun hl m hd => hbegins sm m (steady_begins hf hp (hfound sm hl) hd),
      fun hl hd => ?_⟩
    have hz := steady_relaxes hp (hfound sm hl) hd
    have hctl : (advanceStages s a).ctl = (entered s a).ctl.modModule sm (.relax (entered s a).ctl.params.relax) :=
      congrArg Staged.ctl hz
    have hpar : c.params = (entered s a).ctl.params := (advance_reads s a).2.2.1
    have hself : c.mods[sm] = (entered s a).ctl.mods[sm].relax c.params.relax := by
      rw [hpar]
      exact (congrArg (fun c : Controller => c.mods[sm]) hctl).trans (modModule_self ..)
    obtain ⟨e1, e2, e3, e4, e5, -⟩ := entered_mods s a sm
    obtain ⟨r1, r2, r3⟩ := relax_gain c.params.relax (entered s a).ctl.mods[sm]
    rw [e1] at r1 r2 r3
    refine ⟨(congrArg Controller.phase hctl).trans ((entered_keeps s a).1.trans hp), quiet_of_eq hf hz rfl,
      fun m hm => ?_, fun hg => ?_, fun hg hr => ?_, fun hg h0 hr => ?_⟩
    · show (advanceStages s a).ctl.same s.ctl m
      rw [hctl]
      unfold Controller.same
      rw [modModule_ne (Ne.symm hm)]
      exact entered_same s a m
    · rw [hself, r1 hg]
      refine ⟨?_, e3⟩
      show c.mods[sm].gain = _ ∧ c.mods[sm].rx = _ ∧ c.mods[sm].ry = _
      rw [hself, r1 hg]
      exact ⟨e1, e4, e5⟩
    · rw [hself, r2 hg (by rw [e3]; exact hr)]
      exact ⟨rfl, rfl⟩
    · rw [hself, r3 hg h0 (by rw [e3]; exact hr), e2, e3]
      exact ⟨rfl, rfl⟩
  case preparing =>
    intro result fades
    have hfades : ∀ g rx ry u, Fades s a sm im g rx ry u → fades g rx ry u := fun g rx ry u h => h
    refine ⟨fun hs hi => ?_, fun hs hi => ?_, fun hs hi => ?_, fun hs hi hc => ?_, fun hs hi m hc h1 h2 => ?_,
      fun hs hi hc => ⟨fun r h v rx ry hr ho => ?_, fun hno => ⟨fun hk => ?_, fun hk => ⟨fun fi hfi => ?_, fun hn => ?_⟩⟩⟩⟩
    · exact preparing_cut hf hp (hlost sm hs) (hfound im hi)
    · exact preparing_bothLost hf hp (hlost sm hs) (hlost im hi)
    · exact preparing_abandoned hf hp (hfound sm hs) (hlost im hi)
    · exact preparing_withdrawn hf hp (hfound sm hs) (hfound im hi) hc
    · exact hbegins sm m (preparing_restarts hf hp (hfound sm hs) (hfound im hi) hc h1 h2)
    all_goals have hz := advance_continues (a := a) hp hne (hfound sm hs) (hfound im hi) hc
    · exact preparing_succeeds hf hne hz hr.1 hr.2.2 ho
    all_goals
      have hpar : c.params = (entered s a).ctl.params := (advance_reads s a).2.2.1
      have hcnt : (entered s a).ctl.prepareCounter = s.ctl.prepareCounter := (entered_keeps s a).2.2.2.2.2.2
      rw [continuePreparation_counts (no_success hno), ← hpar, hcnt] at hz
    · rw [if_neg (Nat.not_le.2 hk)] at hz
      exact preparing_counts hf hp hz
    · rw [if_pos hk] at hz
      obtain ⟨h1, h2⟩ := preparing_falls hf hne hz hfi
      rw [trailerRatio_eq] at h1
      exact ⟨h1, h2⟩
    · rw [if_pos hk] at hz
      exact preparing_fails hf hz hn

end Sys2Proof.Machine
end

section
/-! The opening of an output frame (R86, R130, R132 to R135, R137): the parts it makes, the frame it leaves OPEN, the frame
it drains, and the holders it adds and takes. -/

namespace Sys2Proof.Machine

-- Declaration after declaration: elaborated side by side, those of the joined text need more memory than the check has.
set_option Elab.async false

/-! ### The pacing view (R86) -/

theorem find?_allViews (p : ViewId → Bool) (v : ViewId) :
    allViews.find? p = some v ↔ p v = true ∧ ∀ u < v, p u = false := by
  revert p v
  decide

theorem pacingView_some (s : State) (v : ViewId) : s.pacingView = some v ↔
    s.comp.views[v].enabled = true ∧ ∀ u < v, s.comp.views[u].enabled = false :=
  find?_allViews (fun v => s.comp.views[v].enabled) v

theorem pacingView_none (s : State) : s.pacingView = none ↔ ∀ v : ViewId, s.comp.views[v].enabled = false := by
  unfold State.pacingView
  rw [List.find?_eq_none]
  exact ⟨fun h v => by simpa using h v (mem_allViews v), fun h v _ => by rw [h v]; decide⟩

/-! ### Parallax (R65) -/

theorem interpolate_eq {f0 f1 : Nat} (h : f0 < f1) (d0 d1 : Int) (f : Nat) :
    interpolate f0 d0 f1 d1 f =
      let den : Int := (f1 : Int) - f0
      let num := d0 * den + (d1 - d0) * ((f : Int) - f0)
      if 0 ≤ num then (2 * num + den) / (2 * den) else -((2 * -num + den) / (2 * den)) := by
  obtain ⟨k, rfl⟩ := Nat.exists_eq_add_of_le (Nat.le_of_lt h)
  have hk : ((f0 + k : Nat) : Int) - f0 = k := by push_cast; ring
  have hup : ∀ z : Int, 0 ≤ z → (roundHalfUp z.toNat k : Int) = (2 * z + k) / (2 * k) := fun z hz => by
    obtain ⟨n, rfl⟩ := Int.eq_ofNat_of_zero_le hz
    rw [Int.toNat_natCast, roundHalfUp]
    push_cast
    rfl
  rw [interpolate, hk, Nat.add_sub_cancel_left, roundHalfAway]
  dsimp only
  split
  · rename_i hz
    exact hup _ hz
  · rename_i hz
    rw [hup _ (by omega)]

section
variable (d : ParallaxEntry → Int) {f : Nat}

/-- At or above the last entry the parallax is its value. -/
theorem parallaxFrom_last (e : ParallaxEntry) (es : List ParallaxEntry) {z : ParallaxEntry}
    (hs : (e :: es).Pairwise fun x y => x.focus < y.focus) (hz : (e :: es).getLast? = some z) (hf : z.focus ≤ f) :
    parallaxFrom d f e es = d z := by
  induction es generalizing e with
  | nil =>
    cases hz
    rfl
  | cons e' es ih =>
    obtain ⟨-, hs'⟩ := List.pairwise_cons.1 hs
    rw [List.getLast?_cons_cons] at hz
    have hle : ¬f < e'.focus := by
      obtain rfl | hm := List.mem_cons.1 (List.mem_of_getLast? hz)
      · omega
      · have := (List.pairwise_cons.1 hs').1 z hm
        omega
    rw [parallaxFrom, if_neg hle]
    exact ih e' hs' hz

/-- Between two entries it is interpolated. -/
theorem parallaxFrom_between (x : ParallaxEntry) (es pre : List ParallaxEntry) {e e' : ParallaxEntry}
    {post : List ParallaxEntry} (hs : (x :: es).Pairwise fun x y => x.focus < y.focus)
    (heq : x :: es = pre ++ e :: e' :: post) (h1 : e.focus < f) (h2 : f < e'.focus) :
    parallaxFrom d f x es = interpolate e.focus (d e) e'.focus (d e') f := by
  induction pre generalizing x es with
  | nil =>
    cases heq
    rw [parallaxFrom, if_pos h2]
  | cons p pre ih =>
    obtain ⟨rfl, rfl⟩ := List.cons.inj heq
    have hs' : (pre ++ e :: e' :: post).Pairwise fun x y => x.focus < y.focus := (List.pairwise_cons.1 hs).2
    show parallaxFrom d f x (pre ++ e :: e' :: post) = _
    cases hrest : pre ++ e :: e' :: post with
    | nil => exact absurd hrest (by simp)
    | cons y ys =>
      have hy : ¬f < y.focus := by
        have hmem : e ∈ y :: ys := hrest ▸ List.mem_append_right _ List.mem_cons_self
        rw [hrest] at hs'
        obtain rfl | hm := List.mem_cons.1 hmem
        · omega
        · have := (List.pairwise_cons.1 hs').1 e hm
          omega
      rw [parallaxFrom, if_neg hy]
      exact ih y ys (hrest ▸ hs') hrest.symm

theorem parallax_of_le {e : ParallaxEntry} (es : List ParallaxEntry) (h : f ≤ e.focus) :
    parallax d (e :: es) f = d e := if_pos h

/-- Above the first entry the parallax is sought from it. -/
theorem parallax_of_lt {e : ParallaxEntry} (es : List ParallaxEntry) (h : e.focus < f) :
    parallax d (e :: es) f = parallaxFrom d f e es := if_neg (Nat.not_le.2 h)

theorem parallax_last {table : List ParallaxEntry} {z : ParallaxEntry}
    (hs : table.Pairwise fun x y => x.focus < y.focus) (hz : table.getLast? = some z) (hf : z.focus ≤ f) :
    parallax d table f = d z := by
  cases table with
  | nil => cases hz
  | cons e es =>
    obtain rfl | hm := List.mem_cons.1 (List.mem_of_getLast? hz)
    · cases es with
      | nil =>
        by_cases h : f ≤ z.focus
        · exact parallax_of_le d [] h
        · exact parallax_of_lt d [] (Nat.not_le.1 h)
      | cons e' es =>
        rw [List.getLast?_cons_cons] at hz
        exact absurd ((List.pairwise_cons.1 hs).1 z (List.mem_of_getLast? hz)) (Nat.lt_irrefl _)
    · rw [parallax_of_lt d es (Nat.lt_of_lt_of_le ((List.pairwise_cons.1 hs).1 z hm) hf)]
      exact parallaxFrom_last d e es hs hz hf

theorem parallax_between {table pre post : List ParallaxEntry} {e e' : ParallaxEntry}
    (hs : table.Pairwise fun x y => x.focus < y.focus) (heq : table = pre ++ e :: e' :: post) (h1 : e.focus < f)
    (h2 : f < e'.focus) : parallax d table f = interpolate e.focus (d e) e'.focus (d e') f := by
  cases table with
  | nil => exact absurd heq (by simp)
  | cons x es =>
    have hx : x.focus < f := by
      have hmem : e ∈ x :: es := heq ▸ List.mem_append_right _ List.mem_cons_self
      obtain rfl | hm := List.mem_cons.1 hmem
      · exact h1
      · exact Nat.lt_trans ((List.pairwise_cons.1 hs).1 e hm) h1
    rw [parallax_of_lt d es hx]
    exact parallaxFrom_between d x es pre hs heq h1 h2

end

/-! ### The parts of an output frame (R64 to R71, R133, R134) -/

section
variable {s : State} {st : SlotStore} {w : View} {l : Published} {m : ModuleId} {slot : Option Nat}

/-- The slot a part is made from. -/
def State.pinned (s : State) (m : ModuleId) (slot : Option Nat) : Option Slot :=
  slot.bind fun i => s.store.mods[m].slots[i]?

/-- Holders added change neither base nor record of a pinned slot. -/
theorem held_pinned {x : Holder} {Q : ModuleId → Nat → Prop} (h : Held s.store st x Q) (m : ModuleId) (slot : Option Nat) :
    (({ s with store := st } : State).pinned m slot).map (fun y => (y.base, y.state))
      = (s.pinned m slot).map fun y => (y.base, y.state) := by
  cases slot with
  | none => rfl
  | some i =>
    obtain ⟨-, hm⟩ := h
    obtain ⟨-, -, hlen, hs⟩ := hm m
    show (st.mods[m].slots[i]?).map _ = (s.store.mods[m].slots[i]?).map _
    by_cases hi : i < s.store.mods[m].slots.length
    · have hy := List.getElem?_eq_getElem hi
      have hy' := List.getElem?_eq_getElem (hlen ▸ hi : i < st.mods[m].slots.length)
      obtain ⟨h1, -, h2, -⟩ := hs i _ _ hy hy'
      rw [hy, hy', Option.map_some, Option.map_some, h1, h2]
    · rw [List.getElem?_eq_none (Nat.not_lt.1 hi), List.getElem?_eq_none (hlen ▸ Nat.not_lt.1 hi)]

theorem record_eq_of_state {y y' : Slot} (h : y.state = y'.state) : y.record = y'.record := by
  unfold Slot.record
  rw [h]

/-- So a part is the same made before or after. -/
theorem held_makePart {x : Holder} {Q : ModuleId → Nat → Prop} (h : Held s.store st x Q) (w : View) (l : Published)
    (m : ModuleId) (slot : Option Nat) : makePart { s with store := st } w l m slot = makePart s w l m slot := by
  have hp := held_pinned h m slot
  have hbase : (({ s with store := st } : State).pinned m slot).elim 0 (·.base) = (s.pinned m slot).elim 0 (·.base) := by
    have := congrArg (·.elim 0 Prod.fst) hp
    rwa [Option.elim_map, Option.elim_map] at this
  have hrec : (({ s with store := st } : State).pinned m slot).bind Slot.record = (s.pinned m slot).bind Slot.record := by
    cases hy : s.pinned m slot with
    | none =>
      rw [hy, Option.map_none, Option.map_eq_none_iff] at hp
      rw [hp]
    | some y =>
      rw [hy, Option.map_some, Option.map_eq_some_iff] at hp
      obtain ⟨y', hy', he⟩ := hp
      rw [hy', Option.bind_some, Option.bind_some]
      exact record_eq_of_state (congrArg Prod.snd he)
  unfold State.pinned at hbase hrec
  unfold makePart
  dsimp only at hbase hrec ⊢
  rw [hbase, hrec]

theorem outsideFrame_iff (size : Nat) (c : Int) :
    outsideFrame size c = true ↔ c < 0 ∨ 256 * ((size : Int) - 1) < c := by
  rw [outsideFrame, Bool.or_eq_true, decide_eq_true_eq, decide_eq_true_eq]
  rfl

theorem failsCoverage_iff (p : Part) (w : View) : p.failsCoverage w = true ↔
    (∃ i, (i = 0 ∨ i = w.width - 1) ∧ outsideFrame p.width (p.coordX w i) = true)
      ∨ ∃ i, (i = 0 ∨ i = w.height - 1) ∧ outsideFrame p.height (p.coordY w i) = true := by
  unfold Part.failsCoverage
  simp only [Bool.or_eq_true, or_and_right, exists_or, exists_eq_left, or_assoc]

theorem coverageFailed_iff (s : State) (w : View) (l : Published) (m : ModuleId) (slot : Option Nat) :
    (makePart s w l m slot).coverageFailed = true ↔ slot ≠ none ∧ (makePart s w l m slot).failsCoverage w = true := by
  show (slot.isSome && (makePart s w l m slot).failsCoverage w) = true ↔ _
  rw [Bool.and_eq_true, Option.isSome_iff_ne_none]

theorem stepClamped_iff (fw scale zq wv : Nat) :
    stepClampedOf fw scale zq wv = true ↔ rawStep fw scale zq wv < 1 ∨ 1048575 < rawStep fw scale zq wv := by
  rw [stepClampedOf, clamped, bne_iff_ne, stepOf, clamp_eq_max_min (by decide)]
  omega

/-- With a READY slot a part has the slot's base and its frame's items. -/
theorem makePart_of_ready {y : Slot} {r : FrameRecord} (hp : s.pinned m slot = some y) (hr : y.state = .ready r) :
    (makePart s w l m slot).base = y.base ∧ (makePart s w l m slot).frame = r.frame
      ∧ (makePart s w l m slot).midpoint = r.midpoint ∧ (makePart s w l m slot).focus = r.focus
      ∧ (makePart s w l m slot).ox
        = 4096 * parallax (·.dx) l.mods[m].calibration.parallax r.focus + l.mods[m].rx
      ∧ (makePart s w l m slot).oy
        = 4096 * parallax (·.dy) l.mods[m].calibration.parallax r.focus + l.mods[m].ry := by
  have hslot : slot.isSome = true := by
    cases slot with
    | none => cases hp
    | some i => rfl
  have hrec : y.record = some r := by rw [Slot.record, hr]
  unfold State.pinned at hp
  unfold makePart
  dsimp only
  rw [hp, Option.bind_some, hrec, if_pos hslot, if_pos hslot]
  exact ⟨rfl, rfl, rfl, rfl, rfl, rfl⟩

end

/-! ### The opening step by step (R132) -/

/-- The part of a module in the output frame that a view opens. -/
def State.partOf (b : State) (v : ViewId) (m : ModuleId) : Part :=
  makePart b b.comp.views[v] b.ctl.published m (b.pick b.ctl.published m)

/-- The output frame that a view opens, once it is counted (R132 to R137). -/
def State.nextFrame (b : State) (v : ViewId) (n : Word) : OutputFrame where
  status := .opened
  number := n
  latched := b.ctl.published
  serving := b.ctl.published.phase.serving.map (b.partOf v)
  second := b.ctl.published.phase.second.map (b.partOf v)
  flags := headerFlags b.ctl.published (b.ctl.published.phase.serving.map (b.partOf v))
    (b.ctl.published.phase.second.map (b.partOf v))

/-- The slots that the parts of the frame pin (R133). -/
def State.pins (b : State) (m : ModuleId) (i : Nat) : Prop :=
  (b.ctl.published.phase.serving = some m ∧ b.pick b.ctl.published m = some i)
    ∨ (b.ctl.published.phase.second = some m ∧ b.pick b.ctl.published m = some i)

section
variable (s : State) (v : ViewId)

/-- The view once counted (R132, step 1). -/
theorem beginOpen_view : (s.beginOpen v).comp =
    { s.comp with
      views := s.comp.views.set v
        { s.comp.views[v] with counter := s.comp.views[v].counter + 1, openedSinceEnable := true } } := by
  obtain ⟨c, g, h, -⟩ := beginOpen_eq s v
  rw [h]
  rfl

theorem beginOpen_views : (s.beginOpen v).comp.views[v] =
    { s.comp.views[v] with counter := s.comp.views[v].counter + 1, openedSinceEnable := true } := by
  rw [beginOpen_view, Fin.getElem_fin, Vector.getElem_set_self]

theorem beginOpen_store : (s.beginOpen v).store = s.store := by
  obtain ⟨c, g, h, -⟩ := beginOpen_eq s v
  rw [h]
  rfl

/-- Steps 3 to 7: the two parts are pinned and made, the frame is put into its record, the old one drains (R132). -/
theorem openFrame_eq : ∃ st, Held s.store st (.frame v s.comp.views[v].nextName) (s.beginOpen v).pins
    ∧ s.openFrame v =
      let b := s.beginOpen v
      let o := b.nextFrame v (s.comp.views[v].counter + 1)
      let d := (({ b with store := st } : State).modView v fun w =>
        w.setFrame s.comp.views[v].nextName (some o)).drainOld v s.comp.views[v].nextName.other
      if o.flags.coverage then d.raise (coverageRaise v (s.comp.views[v].counter + 1)) else d := by
  have hname : (s.beginOpen v).comp.views[v].nextName = s.comp.views[v].nextName := by rw [beginOpen_views]; rfl
  have hcount : (s.beginOpen v).comp.views[v].counter = s.comp.views[v].counter + 1 := by rw [beginOpen_views]
  obtain ⟨st1, h1, held1, p1⟩ := openPart_spec (s.beginOpen v) v (s.beginOpen v).ctl.published
    (.frame v s.comp.views[v].nextName) (s.beginOpen v).ctl.published.phase.serving
  obtain ⟨st2, h2, held2, p2⟩ := openPart_spec { s.beginOpen v with store := st1 } v (s.beginOpen v).ctl.published
    (.frame v s.comp.views[v].nextName) (s.beginOpen v).ctl.published.phase.second
  simp only [held_pick held1] at held2 p2
  have held := held1.trans held2
  simp only [held_makePart held1] at p1
  have hmake2 : ∀ k slot, makePart { s.beginOpen v with store := st2 } (s.beginOpen v).comp.views[v]
      (s.beginOpen v).ctl.published k slot = makePart (s.beginOpen v) (s.beginOpen v).comp.views[v]
      (s.beginOpen v).ctl.published k slot := fun k slot => held_makePart held _ _ k slot
  have p2' : (({ s.beginOpen v with store := st1 } : State).openPart v (s.beginOpen v).ctl.published
      (.frame v s.comp.views[v].nextName) (s.beginOpen v).ctl.published.phase.second).2
      = (s.beginOpen v).ctl.published.phase.second.map ((s.beginOpen v).partOf v) := by
    rw [p2]
    congr 1
    funext k
    exact hmake2 k _
  refine ⟨st2, ?_, ?_⟩
  · rw [← beginOpen_store s v]
    exact held
  · unfold State.openFrame
    dsimp only
    rw [hname, hcount, h1, p1, h2, p2']
    rfl

end

end Sys2Proof.Machine
end

section
/-! O48: the opening of an output frame (R64 to R71, R86, R88, R130, R132 to R135, R137). -/

namespace Sys2Proof.Machine

-- Declaration after declaration: elaborated side by side, those of the joined text need more memory than the check has.
set_option Elab.async false

theorem set_getElem_self {α : Type} {n : Nat} (x : Vector α n) (i : Fin n) (a : α) : (x.set i a)[i] = a :=
  Vector.getElem_set_self ..

theorem upd_upd {α : Type} {n : Nat} (x : Vector α n) (i : Fin n) (f g : α → α) :
    upd (upd x i f) i g = x.set i (g (f x[i])) := by
  unfold upd
  rw [set_getElem_self, Vector.set_set]

section
variable (s : State) (v : ViewId)

/-! ### The state after an opening -/

/-- The output frame that stood in the other record was OPEN. -/
def State.oldWasOpen (s : State) (v : ViewId) : Prop :=
  ∃ o, s.comp.views[v].frame s.comp.views[v].nextName.other = some o ∧ o.status = .opened

/-- Reads are in flight on it. -/
def State.oldHasReads (s : State) (v : ViewId) : Prop :=
  ∃ (e : EntryId) (r : ReadEntry), s.comp.table[e].read = some r ∧ r.view = v
    ∧ r.frame = .record s.comp.views[v].nextName.other

/-- The view once an output frame stands in the free record and `kept` in the other (R130, R132). -/
def View.opened (w : View) (o : OutputFrame) (kept : Option OutputFrame) : View :=
  (({ w with counter := w.counter + 1, openedSinceEnable := true }).setFrame w.nextName (some o)).setFrame
    w.nextName.other kept

theorem nextName_ne_other (w : View) : w.nextName ≠ w.nextName.other := by
  cases w.nextName <;> decide

/-- The view counted with a frame in a record. -/
def View.counted (w : View) (f : FrameName) (o : OutputFrame) : View :=
  ({ w with counter := w.counter + 1, openedSinceEnable := true }).setFrame f (some o)

/-- The state with the new frame in its record: the view, the Controller and the Agent changed, and what the pins are. -/
theorem beginOpen_put (st : SlotStore) (f : FrameName) (o : OutputFrame) :
    ({ s.beginOpen v with store := st } : State).modView v (fun w => w.setFrame f (some o)) =
      { s with
        ctl := (s.beginOpen v).ctl
        agent := (s.beginOpen v).agent
        store := st
        comp := { s.comp with views := s.comp.views.set v (s.comp.views[v].counted f o) } } := by
  obtain ⟨c, g, h, -⟩ := beginOpen_eq s v
  rw [h]
  exact congrArg
    (fun ws => ({ s with ctl := c, agent := g, store := st, comp := { s.comp with views := ws } } : State))
    (upd_upd s.comp.views v (fun w => { w with counter := s.comp.views[v].counter + 1, openedSinceEnable := true })
      fun w => w.setFrame f (some o))

/-- A raise reads the integration, the time count and the Agent alone. -/
theorem raise_agent_congr {X Y : State} (r : Raise) (hcfg : X.cfg = Y.cfg) (htime : X.time = Y.time)
    (hagent : X.agent = Y.agent) : (X.raise r).agent = (Y.raise r).agent := by
  rw [State.raise_agent, State.raise_agent, hcfg, htime, hagent]

theorem beginOpen_cfg : (s.beginOpen v).cfg = s.cfg := by
  obtain ⟨c, g, h, -⟩ := beginOpen_eq s v
  rw [h]
  rfl

theorem beginOpen_time : (s.beginOpen v).time = s.time := by
  obtain ⟨c, g, h, -⟩ := beginOpen_eq s v
  rw [h]
  rfl

theorem beginOpen_trackers : (s.beginOpen v).trackers = s.trackers := by
  obtain ⟨c, g, h, -⟩ := beginOpen_eq s v
  rw [h]
  rfl

/-- What an opening leaves of each block (R132). -/
theorem openFrame_spec : ∃ kept st store,
    Held s.store st (.frame v s.comp.views[v].nextName) (s.beginOpen v).pins
      ∧ (let o := (s.beginOpen v).nextFrame v (s.comp.views[v].counter + 1)
        s.openFrame v =
          { s with
            ctl := (s.beginOpen v).ctl
            store := store
            comp := { s.comp with views := s.comp.views.set v (s.comp.views[v].opened o kept) }
            agent :=
              if o.flags.coverage = true then
                ((s.beginOpen v).raise (coverageRaise v (s.comp.views[v].counter + 1))).agent
              else (s.beginOpen v).agent })
      ∧ (¬s.oldWasOpen v → kept = s.comp.views[v].frame s.comp.views[v].nextName.other)
      ∧ (s.oldWasOpen v → ¬s.oldHasReads v → kept = none)
      ∧ (s.oldWasOpen v → s.oldHasReads v →
        kept = (s.comp.views[v].frame s.comp.views[v].nextName.other).map fun x => { x with status := .draining })
      ∧ (s.oldWasOpen v ∧ ¬s.oldHasReads v →
        store = (({ s with store := st } : State).unholdAll (.frame v s.comp.views[v].nextName.other)).store)
      ∧ (¬(s.oldWasOpen v ∧ ¬s.oldHasReads v) → store = st) := by
  obtain ⟨st, held, he⟩ := openFrame_eq s v
  generalize ho : (s.beginOpen v).nextFrame v (s.comp.views[v].counter + 1) = o at he
  dsimp only at he
  rw [ho, beginOpen_put] at he
  have hold : (s.comp.views.set v (s.comp.views[v].counted s.comp.views[v].nextName o))[v].frame
      s.comp.views[v].nextName.other = s.comp.views[v].frame s.comp.views[v].nextName.other := by
    rw [set_getElem_self]
    exact View.setFrame_ne _ _ _ _ (nextName_ne_other _)
  generalize hS :
    ({ s with
      ctl := (s.beginOpen v).ctl
      agent := (s.beginOpen v).agent
      store := st
      comp :=
        { s.comp with views := s.comp.views.set v (s.comp.views[v].counted s.comp.views[v].nextName o) } } :
      State) = S at he
  have hspec := drainOld_spec S v s.comp.views[v].nextName.other
  subst hS
  dsimp only at hspec
  rw [hold] at hspec
  obtain ⟨kept, store, hd, h1, h2, h3, h4, h5⟩ := hspec
  rw [hd, set_getElem_self, Vector.set_set] at he
  refine ⟨kept, st, store, held, ?_, h1, h2, h3, h4, h5⟩
  rw [he]
  split
  · next hc =>
    dsimp only
    rw [if_pos hc, raise_agent_congr (X := s.beginOpen v) (Y := { s with agent := (s.beginOpen v).agent }) _
      (beginOpen_cfg s v) (beginOpen_time s v) rfl]
    rfl
  · next hc =>
    dsimp only
    rw [if_neg hc]
    rfl

/-! ### The holders after an opening (R133, R135) -/

theorem unhold_slot (ms : ModuleSlots) (x : Holder) (i : Nat) : (ms.unhold x).slots[i]? = (ms.slots[i]?).map (·.unhold x) :=
  List.getElem?_map ..

theorem unhold_holder (y : Slot) (x h : Holder) :
    (y.unhold x).holders[h.index] = if h = x then false else y.holders[h.index] := by
  show (Vector.set y.holders x.index false)[h.index.val] = _
  rw [Vector.getElem_set]
  by_cases hx : h = x
  · rw [if_pos hx, if_pos (by rw [hx])]
  · rw [if_neg hx, if_neg fun he => hx (index_inj (Fin.ext he.symm))]
    rfl

/-- The new frame's holder enters the slots that `Q` names; where `closed` holds the old frame's holder leaves every
slot; nothing else changes. -/
theorem opened_holders {A st store : SlotStore} {name : FrameName} {Q : ModuleId → Nat → Prop} {closed : Prop}
    (held : Held A st (.frame v name) Q)
    (hclosed : closed → store = (({ s with store := st } : State).unholdAll (.frame v name.other)).store)
    (hstays : ¬closed → store = st) :
    store.closeOrder = A.closeOrder ∧ ∀ m : ModuleId,
      store.mods[m].ready = A.mods[m].ready ∧ store.mods[m].tickets = A.mods[m].tickets
      ∧ store.mods[m].slots.length = A.mods[m].slots.length
      ∧ ∀ (i : Nat) (y y' : Slot), A.mods[m].slots[i]? = some y → store.mods[m].slots[i]? = some y' →
        y'.base = y.base ∧ y'.size = y.size ∧ y'.state = y.state
        ∧ ∀ h : Holder,
          let pinned := h = .frame v name ∧ (∃ r, y.state = .ready r) ∧ Q m i
          let left := h = .frame v name.other ∧ closed
          (pinned → y'.holders[h.index] = true) ∧ (left → y'.holders[h.index] = false)
          ∧ (¬pinned → ¬left → y'.holders[h.index] = y.holders[h.index]) := by
  obtain ⟨horder, hm⟩ := held
  have hne : Holder.frame v name ≠ .frame v name.other := fun he => by cases name <;> cases he
  by_cases hc : closed
  · rw [hclosed hc]
    refine ⟨horder, fun m => ?_⟩
    obtain ⟨hready, htickets, hlen, hslots⟩ := hm m
    rw [unholdAll_mods]
    refine ⟨hready, htickets, (List.length_map ..).trans hlen, fun i y y' hy hy' => ?_⟩
    rw [unhold_slot, Option.map_eq_some_iff] at hy'
    obtain ⟨z, hz, rfl⟩ := hy'
    obtain ⟨h1, h2, h3, h4⟩ := hslots i y z hy hz
    refine ⟨h1, h2, h3, fun h => ?_⟩
    obtain ⟨hpin, hkeep⟩ := h4 h
    dsimp only
    rw [unhold_holder]
    refine ⟨fun hp => ?_, fun hl => if_pos hl.1, fun hp hl => ?_⟩
    · rw [if_neg (hp.1 ▸ hne)]
      exact hpin hp
    · rw [if_neg fun he => hl ⟨he, hc⟩]
      exact hkeep hp
  · rw [hstays hc]
    refine ⟨horder, fun m => ?_⟩
    obtain ⟨hready, htickets, hlen, hslots⟩ := hm m
    refine ⟨hready, htickets, hlen, fun i y y' hy hy' => ?_⟩
    obtain ⟨h1, h2, h3, h4⟩ := hslots i y y' hy hy'
    refine ⟨h1, h2, h3, fun h => ?_⟩
    obtain ⟨hpin, hkeep⟩ := h4 h
    exact ⟨hpin, fun hl => absurd hl.2 hc, fun hp _ => hkeep hp⟩

/-! ### The parts and the flags of the new frame (R64 to R71, R133, R134, R137) -/

/-- The parts of a frame. -/
def OutputFrame.involves (o : OutputFrame) (p : Part) : Prop := o.serving = some p ∨ o.second = some p

section
variable (b : State) (n : Word)

theorem involves_iff (p : Part) : (b.nextFrame v n).involves p ↔
    ∃ m, (b.ctl.published.phase.serving = some m ∨ b.ctl.published.phase.second = some m) ∧ p = b.partOf v m := by
  show Option.map _ _ = some p ∨ Option.map _ _ = some p ↔ _
  simp only [Option.map_eq_some_iff, or_and_right, exists_or, eq_comm (a := p)]

theorem pins_iff (m : ModuleId) (i : Nat) :
    b.pins m i ↔ ∃ p, (b.nextFrame v n).involves p ∧ p.module = m ∧ p.slot = some i := by
  constructor
  · rintro (⟨hm, hi⟩ | ⟨hm, hi⟩)
    · exact ⟨b.partOf v m, (involves_iff v b n _).2 ⟨m, .inl hm, rfl⟩, rfl, hi⟩
    · exact ⟨b.partOf v m, (involves_iff v b n _).2 ⟨m, .inr hm, rfl⟩, rfl, hi⟩
  · rintro ⟨p, hp, rfl, hi⟩
    obtain ⟨m, hm, rfl⟩ := (involves_iff v b n p).1 hp
    exact hm.elim (fun h => .inl ⟨h, hi⟩) fun h => .inr ⟨h, hi⟩

theorem nextFrame_modules : (b.nextFrame v n).serving.map (·.module) = b.ctl.published.phase.serving
    ∧ (b.nextFrame v n).second.map (·.module) = b.ctl.published.phase.second := by
  constructor
  · show (Option.map _ _).map _ = _
    rw [Option.map_map]
    exact Option.map_id' ..
  · show (Option.map _ _).map _ = _
    rw [Option.map_map]
    exact Option.map_id' ..

theorem isFading_iff (p : Phase) : p.isFading = true ↔ ∃ a c, p = .fading a c := by
  cases p <;> simp [Phase.isFading]

theorem isStarved_iff (p : Phase) : p.isStarved = true ↔ ∃ a, p = .starved a := by
  cases p <;> simp [Phase.isStarved]

theorem elim_false_iff (f : Part → Bool) (a : Option Part) : a.elim false f = true ↔ ∃ p, a = some p ∧ f p = true := by
  cases a <;> simp

theorem any_involved (f : Part → Bool) (o : OutputFrame) :
    (o.serving.elim false f || o.second.elim false f) = true ↔ ∃ p, o.involves p ∧ f p = true := by
  rw [Bool.or_eq_true, elim_false_iff, elim_false_iff, ← exists_or]
  simp only [OutputFrame.involves, or_and_right]

theorem elim_true_iff (f : Part → Bool) (a : Option Part) :
    a.elim true f = true ↔ a = none ∨ ∃ p, a = some p ∧ f p = true := by
  cases a <;> simp

theorem slotless_iff (p : Part) : p.slotless = true ↔ p.slot = none := by
  rw [Part.slotless, Option.isNone_iff_eq_none]

/-- Each header flag of the new frame, as R137 has it. -/
theorem nextFrame_flags :
    let o := b.nextFrame v n
    let l := b.ctl.published
    (o.flags.coverage = true ↔ ∃ p, o.involves p ∧ p.coverageFailed = true)
    ∧ (o.flags.noFrame = true ↔ o.serving = none ∨ ∃ p, o.involves p ∧ p.slot = none)
    ∧ (o.flags.stepClamped = true ↔ ∃ p, o.involves p ∧ p.stepClamped = true)
    ∧ (o.flags.unrefined = true ↔ (∃ a c, l.phase = .fading a c) ∧ l.unrefined = true)
    ∧ o.flags.frozen = l.frozen ∧ (o.flags.starved = true ↔ ∃ a, l.phase = .starved a)
    ∧ (o.flags.returning = true ↔ (∃ a c, l.phase = .fading a c) ∧ l.direction = .returning) := by
  intro o l
  refine ⟨any_involved _ o, ?_, any_involved _ o, ?_, rfl, isStarved_iff _, ?_⟩
  · show (o.serving.elim true Part.slotless || o.second.elim false Part.slotless) = true ↔ _
    rw [Bool.or_eq_true, elim_true_iff, elim_false_iff, or_assoc, ← exists_or]
    simp only [slotless_iff, OutputFrame.involves, or_and_right]
  · show (l.phase.isFading && l.unrefined) = true ↔ _
    rw [Bool.and_eq_true, isFading_iff]
  · show (l.phase.isFading && l.direction == .returning) = true ↔ _
    rw [Bool.and_eq_true, isFading_iff, beq_iff_eq]

end

theorem pinned_beginOpen (m : ModuleId) (slot : Option Nat) :
    (s.beginOpen v).pinned m slot = slot.bind fun i => s.store.mods[m].slots[i]? := by
  unfold State.pinned
  rw [beginOpen_store]

/-- The items of a part of the new frame (R64 to R71, R133, R134). -/
theorem partOf_items (m : ModuleId) :
    let p := (s.beginOpen v).partOf v m
    let w := s.comp.views[v]
    let latched := (s.beginOpen v).ctl.published
    let c := latched.mods[p.module]
    let slot := p.slot.bind fun i => s.store.mods[p.module].slots[i]?
    let raw := (2 * (latched.field.width * c.calibration.scale * 65536) + latched.zq * w.width)
      / (2 * (latched.zq * w.width))
    let coord := fun (centre offset : Int) (size i : Nat) =>
      (2 * (centre + offset) + (2 * (i : Int) + 1 - size) * p.step + 256) / 512
    let outside := fun (size : Nat) (x : Int) => x < 0 ∨ 256 * ((size : Int) - 1) < x
    (p.slot = if latched.frozen then s.store.mods[p.module].slotWith .freeze
      else s.store.mods[p.module].ready.getLast?)
    ∧ p.gain = c.gain ∧ p.cx = c.calibration.cx ∧ p.cy = c.calibration.cy
    ∧ p.width = s.trackers[p.module].record.width ∧ p.height = s.trackers[p.module].record.height
    ∧ p.stride = s.trackers[p.module].record.stride
    ∧ (∀ y r, slot = some y → y.state = .ready r →
      p.base = y.base ∧ p.frame = r.frame ∧ p.midpoint = r.midpoint ∧ p.focus = r.focus
      ∧ p.ox = 4096 * parallax (·.dx) c.calibration.parallax r.focus + c.rx
      ∧ p.oy = 4096 * parallax (·.dy) c.calibration.parallax r.focus + c.ry)
    ∧ (p.slot = none → p.base = 0 ∧ p.frame = 0 ∧ p.midpoint = 0 ∧ p.focus = 0 ∧ p.ox = 0 ∧ p.oy = 0)
    ∧ p.step = max 1 (min 1048575 raw) ∧ (p.stepClamped = true ↔ raw < 1 ∨ 1048575 < raw)
    ∧ (p.coverageFailed = true ↔ p.slot ≠ none
      ∧ ((∃ i, (i = 0 ∨ i = w.width - 1) ∧ outside p.width (coord p.cx p.ox w.width i))
        ∨ ∃ i, (i = 0 ∨ i = w.height - 1) ∧ outside p.height (coord p.cy p.oy w.height i))) := by
  intro p w latched c slot raw coord outside
  have hview := beginOpen_views s v
  have htrackers := beginOpen_trackers s v
  have hwidth : (s.beginOpen v).comp.views[v].width = w.width := by rw [hview]
  have hraw : rawStep latched.field.width c.calibration.scale latched.zq (s.beginOpen v).comp.views[v].width = raw := by
    rw [hwidth]
    rfl
  refine ⟨?slot, rfl, rfl, rfl, ?width, ?height, ?stride, ?ready, ?none, ?step, ?clamped, ?coverage⟩
  case slot =>
    show State.pick _ _ _ = _
    unfold State.pick
    rw [beginOpen_store]
    rfl
  case width => exact congrArg (fun ts : Vector Tracker _ => ts[m].record.width) htrackers
  case height => exact congrArg (fun ts : Vector Tracker _ => ts[m].record.height) htrackers
  case stride => exact congrArg (fun ts : Vector Tracker _ => ts[m].record.stride) htrackers
  case ready =>
    intro y r hy hr
    exact makePart_of_ready ((pinned_beginOpen s v m _).trans hy) hr
  case none =>
    intro hnone
    have hn : (s.beginOpen v).pick (s.beginOpen v).ctl.published m = none := hnone
    have hp : p = makePart (s.beginOpen v) (s.beginOpen v).comp.views[v] latched m none :=
      congrArg (makePart (s.beginOpen v) (s.beginOpen v).comp.views[v] latched m) hn
    rw [hp]
    exact ⟨rfl, rfl, rfl, rfl, rfl, rfl⟩
  case step =>
    show clamp 1 1048575 (rawStep _ _ _ _) = _
    rw [clamp_eq_max_min (by decide)]
    exact congrArg (fun x => max 1 (min 1048575 x)) hraw
  case clamped => exact hraw ▸ stepClamped_iff _ _ _ _
  case coverage =>
    have hfails : p.failsCoverage (s.beginOpen v).comp.views[v] = p.failsCoverage w := by
      rw [hview]
      rfl
    refine (coverageFailed_iff _ _ _ _ _).trans (and_congr_right fun _ => ?_)
    show p.failsCoverage (s.beginOpen v).comp.views[v] = true ↔ _
    rw [hfails, failsCoverage_iff]
    simp only [outsideFrame_iff]
    exact Iff.rfl


/-! ### The obligation -/

theorem nextName_eq (w : View) : w.nextName = if w.frameA = none then .a else .b := by
  unfold View.nextName
  cases w.frameA <;> rfl

theorem nextName_other_eq (w : View) : w.nextName.other = if w.frameA = none then .b else .a := by
  unfold View.nextName
  cases w.frameA <;> rfl

/-- The publication as R88 lists it. -/
theorem publish_eq (c : Controller) : c.publish =
    { c with
      published :=
        { phase := c.phase, alpha := c.alpha, direction := c.direction, unrefined := c.unrefined, frozen := c.frozen
          zq := c.zq, field := c.field
          mods := c.mods.map fun x =>
            { gain := x.gain, rx := x.rx, ry := x.ry, calibration := x.calibration } } } := by
  unfold Controller.publish Controller.publication
  rw [mapAll_eq_map]

/-- Steps 1 and 2 of an opening, as the obligation writes them. -/
theorem beginOpen_counted : s.beginOpen v =
    if s.pacingView = some v then
      (s.counted v).advance { view := v, frame := s.comp.views[v].counter + 1 }
    else s.counted v := rfl

end

/-- Settles O48: the opening step by step (`openFrame_spec`), then the items of its parts, its flags and its holders. -/
theorem openFrameOpens : Obligations.OpenFrameOpens := by
  unfold Obligations.OpenFrameOpens
  intro published
  refine ⟨fun s => ⟨pacingView_some s, pacingView_none s⟩, fun v s => ?opening, fun d table f => ?parallax⟩
  case opening =>
    intro w n name other counted s1 latched s' reads wasOpen
    have hname : name = w.nextName := (nextName_eq w).symm
    have hother : other = w.nextName.other := (nextName_other_eq w).symm
    clear_value name other
    subst hname hother
    obtain ⟨kept, st, store, held, hs, hstays, hcloses, hdrains, hclosed, hheld⟩ := openFrame_spec s v
    refine ⟨(s.beginOpen v).nextFrame v n, kept, store, ?state, ?ctl, ?stays, ?closes, ?drains, rfl, rfl, rfl, ?_⟩
    case state =>
      show s.openFrame v = _
      rw [hs]
      rfl
    case ctl =>
      obtain ⟨c, g, hb, hc⟩ := beginOpen_eq s v
      have hctl : (s.beginOpen v).ctl = c := by rw [hb]
      refine hctl.trans (hc.trans ?_)
      rw [publish_eq]
      rfl
    case stays => exact hstays
    case closes => exact hcloses
    case drains => exact hdrains
    obtain ⟨hserving, hsecond⟩ := nextFrame_modules v (s.beginOpen v) n
    refine ⟨hserving, hsecond, fun p hp => ?part, ?_⟩
    case part =>
      obtain ⟨m, -, rfl⟩ := (involves_iff v (s.beginOpen v) n p).1 hp
      exact partOf_items s v m
    obtain ⟨f1, f2, f3, f4, f5, f6, f7⟩ := nextFrame_flags v (s.beginOpen v) n
    refine ⟨f1, f2, f3, f4, f5, f6, f7, ?_⟩
    have hholders := opened_holders s v held hclosed hheld
    simp only [pins_iff v (s.beginOpen v) n] at hholders
    exact hholders
  case parallax =>
    refine ⟨fun h => by rw [h]; rfl, fun e rest h hf => by rw [h]; exact parallax_of_le d rest hf, fun hs => ⟨?last, ?between⟩⟩
    case last => exact fun e he hf => parallax_last d hs he hf
    case between =>
      intro pre e e' post heq h1 h2
      rw [parallax_between d hs heq h1 h2]
      exact interpolate_eq (Nat.lt_trans h1 h2) _ _ _

end Sys2Proof.Machine
end

section
/-! O47: what becomes of an accepted view read (R129, R131, R132, R138, R143, R146, R149). -/

namespace Sys2Proof.Machine

-- Declaration after declaration: elaborated side by side, those of the joined text need more memory than the check has.
set_option Elab.async false

/-! ### What depends on the reads of the table alone -/

section
variable {s s' : State}

theorem entriesWith_congr (h : ∀ e : EntryId, s'.comp.table[e].read = s.comp.table[e].read) (test : ReadEntry → Bool) :
    s'.entriesWith test = s.entriesWith test := by
  unfold State.entriesWith
  simp only [h]

theorem waitingHeaders_congr (h : ∀ e : EntryId, s'.comp.table[e].read = s.comp.table[e].read) (v : ViewId) :
    s'.waitingHeaders v = s.waitingHeaders v := by
  unfold State.waitingHeaders
  rw [entriesWith_congr h]

theorem hasReads_congr (h : ∀ e : EntryId, s'.comp.table[e].read = s.comp.table[e].read) (v : ViewId) (f : FrameName) :
    (s'.inFlight v f != 0) = (s.inFlight v f != 0) := by
  rw [Bool.eq_iff_iff, bne_iff_ne, bne_iff_ne, not_iff_not, inFlight_eq_zero, inFlight_eq_zero]
  simp only [h]

theorem drainBlocked_congr (h : ∀ e : EntryId, s'.comp.table[e].read = s.comp.table[e].read) {v : ViewId}
    (hv : s'.comp.views[v] = s.comp.views[v]) : s'.drainBlocked v = s.drainBlocked v := by
  unfold State.drainBlocked
  rw [hasReads_congr h, hasReads_congr h, hv]

end

section
variable (s : State) (e : EntryId)

/-- The table with an entry changed. -/
theorem modEntry_getElem (f : TableEntry → TableEntry) (k : EntryId) :
    (s.modEntry e f).comp.table[k] = if e = k then f s.comp.table[e] else s.comp.table[k] :=
  upd_get ..

/-- A new use tag leaves every read. -/
theorem takeTag_read (k : EntryId) : (s.takeTag e).comp.table[k].read = s.comp.table[k].read := by
  unfold State.takeTag
  rw [modEntry_getElem]
  split
  · next h => rw [h]
  · rfl

theorem freeEntryId_some {s : State} {e : EntryId} (he : s.comp.table[e].read = none)
    (hlow : ∀ k : EntryId, k < e → s.comp.table[k].read ≠ none) : s.freeEntryId = some e :=
  find?_of_least (R := (· < ·)) (by decide) (mem_allEntries e) (by rw [he]; rfl) fun k _ hk hlt =>
    hlow k hlt (Option.isNone_iff_eq_none.1 hk)

/-! ### The OPEN output frame after an opening -/

theorem opened_frame (w : View) (o : OutputFrame) (kept : Option OutputFrame) :
    (w.opened o kept).frame w.nextName = some o := by
  unfold View.opened
  rw [View.setFrame_ne _ _ _ _ (nextName_ne_other w).symm, View.setFrame_same]

theorem opened_other (w : View) (o : OutputFrame) (kept : Option OutputFrame) :
    (w.opened o kept).frame w.nextName.other = kept :=
  View.setFrame_same ..

/-- The newest OPEN frame is the one opened, where the other record holds none that is OPEN. -/
theorem openName_opened {w : View} {o : OutputFrame} {kept : Option OutputFrame} (ho : o.status = .opened)
    (hk : ∀ x, kept = some x → x.status ≠ .opened) : (w.opened o kept).openName = some w.nextName := by
  have hopen : (w.opened o kept).isOpen w.nextName = true := (isOpen_iff _ _).2 ⟨o, opened_frame w o kept, ho⟩
  have hother : (w.opened o kept).isOpen w.nextName.other = false := by
    rw [← Bool.not_eq_true, isOpen_iff, opened_other]
    exact fun ⟨x, hx, hs⟩ => hk x hx hs
  unfold View.openName
  cases hn : w.nextName with
  | a =>
    rw [hn] at hopen
    rw [hopen]
    rfl
  | b =>
    rw [hn] at hopen hother
    rw [show FrameName.b.other = .a from rfl] at hother
    rw [hother, hopen]
    rfl

/-- After an opening the OPEN output frame of the view is the new one. -/
theorem openFrame_opened (s : State) (v : ViewId) : ∃ o f, (s.openFrame v).comp.views[v].openName = some f
    ∧ (s.openFrame v).comp.views[v].frame f = some o ∧ o.status = .opened ∧ o.number = s.comp.views[v].counter + 1 := by
  obtain ⟨kept, st, store, -, hs, hstays, hcloses, hdrains, -, -⟩ := openFrame_spec s v
  have hview : (s.openFrame v).comp.views[v]
      = s.comp.views[v].opened ((s.beginOpen v).nextFrame v (s.comp.views[v].counter + 1)) kept := by
    rw [hs]
    exact set_getElem_self ..
  have hk : ∀ x, kept = some x → x.status ≠ .opened := by
    intro x hx hopen
    by_cases hold : s.oldWasOpen v
    · by_cases hreads : s.oldHasReads v
      · rw [hdrains hold hreads, Option.map_eq_some_iff] at hx
        obtain ⟨y, -, rfl⟩ := hx
        cases hopen
      · exact nomatch (hcloses hold hreads).symm.trans hx
    · exact hold ⟨x, (hstays hold).symm.trans hx, hopen⟩
  rw [hview]
  exact ⟨_, _, openName_opened rfl hk, opened_frame .., rfl, rfl⟩

/-! ### The start of a fetch set (R147 to R149) -/

section
variable {s : State} {e : EntryId} {r : ReadEntry} {f : FrameName} {o : OutputFrame}

theorem beginFetch_empty (h : fetchSet s.comp.views[r.view] o r.offset r.len = []) :
    s.beginFetch e r f o = s.putRead e { r with frame := .record f, state := .complete } := by
  unfold State.beginFetch
  rw [h]
  rfl

/-- A fetch set that is not empty is kept to be issued, and issued as far as it may. -/
theorem beginFetch_issues (h : fetchSet s.comp.views[r.view] o r.offset r.len ≠ []) :
    s.beginFetch e r f o = s.issueFetches e
      { r with
        frame := .record f, state := .fetching, toIssue := fetchSet s.comp.views[r.view] o r.offset r.len } 64 := by
  obtain ⟨x, xs, hx⟩ := List.exists_cons_of_ne_nil h
  unfold State.beginFetch
  rw [hx]

/-- Fetches issued before the end of the time count have time count plus timeout as deadline. -/
theorem issuedFrom_deadline {t : Time} {d : Nat} (h : t.toNat + d < 2 ^ 64) (n : Nat) (ys : List FetchSpec) :
    issuedFrom t d n ys = ys.mapIdx fun i y => { id := n + i, spec := y, deadline := BitVec.ofNat 64 (t.toNat + d) } := by
  unfold issuedFrom laterBy
  simp only [if_pos h]

/-- A read with nothing outstanding begins with the first 64 fetches of its set. -/
theorem beginFetch_first (h : fetchSet s.comp.views[r.view] o r.offset r.len ≠ []) (hout : r.outstanding = [])
    (ht : s.time.toNat + s.comp.views[r.view].timeout < 2 ^ 64) :
    s.beginFetch e r f o =
      let set := fetchSet s.comp.views[r.view] o r.offset r.len
      { s.putRead e
          { r with
            frame := .record f
            state := .fetching
            outstanding := (set.take 64).mapIdx fun i y =>
              { id := s.serial + i, spec := y
                deadline := BitVec.ofNat 64 (s.time.toNat + s.comp.views[r.view].timeout) }
            toIssue := set.drop 64 } with
        serial := s.serial + (set.take 64).length } := by
  rw [beginFetch_issues h]
  unfold State.issueFetches
  rw [issue_eq]
  simp only [ReadEntry.room, hout, List.length_nil, Nat.sub_zero, Nat.min_self, List.nil_append,
    issuedFrom_deadline ht]
  rfl

end

/-! ### The answer before the first header read (R143) -/

theorem emptyAnswer_eq (w : View) (off len : Nat) :
    emptyAnswer w off len = (List.range len).map fun i =>
      let b := off + i - 4096
      if 4096 ≤ off + i ∧ b / w.stride < w.height ∧ b % w.stride < 4 * w.width then
        (leBytes 4 (512 * 1024 + 512 * 1048576)).getD (b % w.stride % 4) 0
      else 0 := by
  refine List.map_congr_left fun i _ => ?_
  by_cases hpage : off + i < 4096
  · rw [if_pos hpage, if_neg fun h => absurd h.1 (Nat.not_le.2 hpage)]
  · rw [if_neg hpage, pixelAreaByte, inPicture]
    simp only [Bool.and_eq_true, decide_eq_true_eq, Nat.not_lt.1 hpage, true_and]
    rfl

end

/-! ### The obligation -/

section
variable {s : State} {e : EntryId} {v : ViewId} {req : Byte} {place off len : Nat}

/-- A view read with entry `e` free: what each condition of R146 makes of it, once the tag is taken. -/
theorem acceptViewRead_free (h : s.freeEntryId = some e) : s.acceptViewRead req v place off len =
    if off = 0 then (s.takeTag e).acceptHeader req e v place len
    else (s.waitingHeaders v).getLast?.elim
      (if s.comp.views[v].openedSinceEnable then (s.takeTag e).acceptOnOpen req e v place off len
        else (s.takeTag e).answerEmpty v place off len)
      fun p => (s.takeTag e).putRead e (newRead req place v (kindAt off) off len (.awaiting p) .waitingOpen) := by
  unfold State.acceptViewRead
  rw [h]
  dsimp only
  rw [waitingHeaders_congr (takeTag_read s e)]
  cases (s.waitingHeaders v).getLast? <;> rfl

theorem acceptHeader_opens (hw : s.waitingHeaders v = []) (hd : s.drainBlocked v = false) : ∃ o f,
    (s.openFrame v).comp.views[v].frame f = some o ∧ o.status = .opened ∧ o.number = s.comp.views[v].counter + 1
      ∧ s.acceptHeader req e v place len = (s.openFrame v).answer place (.ok (headerPage o 0 len)) := by
  obtain ⟨o, f, hname, hframe, hopen, hnum⟩ := openFrame_opened s v
  refine ⟨o, f, hframe, hopen, hnum, ?_⟩
  unfold State.acceptHeader
  rw [if_pos ⟨hw, hd⟩]
  dsimp only
  rw [hname, Option.bind_some, hframe]

theorem acceptHeader_waits (h : s.waitingHeaders v ≠ [] ∨ s.drainBlocked v = true) :
    s.acceptHeader req e v place len
      = s.putRead e (newRead req place v .header 0 len (.awaiting place) .waitingOpen) :=
  if_neg fun ⟨hw, hd⟩ => h.elim (fun h => h hw) fun h => Bool.false_ne_true (hd.symm.trans h)

theorem acceptOnOpen_frame {f : FrameName} {o : OutputFrame} (hname : s.comp.views[v].openName = some f)
    (hframe : s.comp.views[v].frame f = some o) : s.acceptOnOpen req e v place off len =
      if off < 4096 then s.answer place (.ok (headerPage o off len))
      else s.beginFetch e (newRead req place v .pixel off len (.record f) .fetching) f o := by
  unfold State.acceptOnOpen
  rw [hname]
  dsimp only
  rw [hframe]

end

/-- Settles O47: `acceptViewRead_free`, and each of its branches by a lemma above. -/
theorem viewReadTakes : Obligations.ViewReadTakes := by
  intro t x v w e s hq hlo hhi hc hwin hx hfree hlow off s0 s1 ends
  have hfree0 : s0.freeEntryId = some e := freeEntryId_some (s := s0) hfree hlow
  have hs1 : s0.takeTag e = s1 := rfl
  have hstall : s.stalls x = false := by
    rw [← Bool.not_eq_true, stalls_iff]
    exact fun h => h.2.2 e hfree
  have hwin' : s0.path.viewWindows[v] = .active w := hwin
  have key : ∀ s', s0.acceptViewRead x.requester v s.serial off x.len = s' → ends s' := fun s' h => by
    show exec _ s = _
    rw [exec_of_class t hq hlo hhi hstall hc, State.acceptClass, if_neg (by rw [hx]; decide), hwin', ← h]
    rfl
  have hreads : ∀ k : EntryId, s1.comp.table[k].read = s.comp.table[k].read := takeTag_read s0 e
  have hwait : s1.waitingHeaders v = s.waitingHeaders v := waitingHeaders_congr hreads v
  have hdrain : s1.drainBlocked v = s.drainBlocked v := drainBlocked_congr hreads rfl
  have hwait0 : s0.waitingHeaders v = s.waitingHeaders v := rfl
  rw [acceptViewRead_free hfree0, hs1, hwait0] at key
  refine ⟨fun h0 hw ho => ?black, fun h0 hw hd => ?opens, fun h0 h => ?waits, fun p h0 hp => ?behind,
    fun f o h0 hw ho hname hframe => ⟨fun hpage => ?header, fun hpixel => ?pixel⟩⟩
  case black =>
    intro y black s2
    have ho' : ¬s0.comp.views[v].openedSinceEnable = true := fun h => Bool.false_ne_true (ho.symm.trans h)
    refine key _ ?_
    rw [if_neg h0, hw, List.getLast?_nil, Option.elim_none, if_neg ho', State.answerEmpty, emptyAnswer_eq]
    rfl
  case opens =>
    obtain ⟨o, f, hframe, hopen, hnum, hs⟩ := acceptHeader_opens (req := x.requester) (e := e) (place := s.serial)
      (len := x.len) (hwait.trans hw) (hdrain.trans hd)
    refine ⟨o, f, hframe, hopen, hnum, key _ ?_⟩
    rw [if_pos h0, hs, headerPage]
    simp only [Nat.zero_add]
  case waits =>
    refine key _ ?_
    rw [if_pos h0, acceptHeader_waits (by rwa [hwait, hdrain])]
  case behind =>
    refine key _ ?_
    rw [if_neg h0, hp]
    rfl
  case header =>
    have ho' : s0.comp.views[v].openedSinceEnable = true := ho
    refine key _ ?_
    rw [if_neg h0, hw, List.getLast?_nil, Option.elim_none, if_pos ho',
      acceptOnOpen_frame (s := s1) hname hframe, if_pos hpage]
  case pixel =>
    intro r set
    have ho' : s0.comp.views[v].openedSinceEnable = true := ho
    refine ⟨key _ ?_, fun hset => ?_, fun hset ht => ?_⟩
    · rw [if_neg h0, hw, List.getLast?_nil, Option.elim_none, if_pos ho',
        acceptOnOpen_frame (s := s1) hname hframe, if_neg (Nat.not_lt.2 hpixel)]
    · exact beginFetch_empty hset
    · exact beginFetch_first (s := s1) (r := r) hset rfl ht

end Sys2Proof.Machine
end

section
/-! The fetch set of a read (R148, R149): the output pixels a read covers, the source rows and columns they sample, and the
pieces a row's run is cut into. -/

namespace Sys2Proof.Machine

-- Declaration after declaration: elaborated side by side, those of the joined text need more memory than the check has.
set_option Elab.async false

/-! ### Samples (R68, R69) -/

theorem sampleCoord_mono (centre offset : Int) (step n : Nat) {x x' : Nat} (h : x ≤ x') :
    sampleCoord centre offset step n x ≤ sampleCoord centre offset step n x' := by
  unfold sampleCoord
  have hx : (2 * (x : Int) + 1 - n) * step ≤ (2 * (x' : Int) + 1 - n) * step :=
    Int.mul_le_mul_of_nonneg_right (by omega) (by omega)
  omega

theorem clampCoord_mono (size : Nat) {c c' : Int} (h : c ≤ c') : clampCoord size c ≤ clampCoord size c' := by
  unfold clampCoord clampInt coordMax
  split <;> split <;> omega

/-- A clamped coordinate lies in the frame. -/
theorem clampCoord_le (size : Nat) (c : Int) : clampCoord size c / 256 ≤ size - 1 := by
  unfold clampCoord clampInt coordMax
  split <;> omega

theorem at0_mono (size : Nat) {c c' : Int} (h : c ≤ c') : (splitCoord size c).at0 ≤ (splitCoord size c').at0 :=
  Nat.div_le_div_right (clampCoord_mono size h)

theorem at1_mono (size : Nat) {c c' : Int} (h : c ≤ c') : (splitCoord size c).at1 ≤ (splitCoord size c').at1 :=
  inf_le_inf_right _ (Nat.succ_le_succ (at0_mono size h))

theorem at0_le_at1 (size : Nat) (c : Int) : (splitCoord size c).at0 ≤ (splitCoord size c).at1 :=
  Nat.le_min.2 ⟨Nat.le_succ _, clampCoord_le size c⟩

section
variable (p : Part) (w : View) {x x' : Nat}

theorem sampleX_at0_mono (h : x ≤ x') : (p.sampleX w x).at0 ≤ (p.sampleX w x').at0 :=
  at0_mono _ (sampleCoord_mono _ _ _ _ h)

theorem sampleX_at1_mono (h : x ≤ x') : (p.sampleX w x).at1 ≤ (p.sampleX w x').at1 :=
  at1_mono _ (sampleCoord_mono _ _ _ _ h)

theorem sampleX_at0_le_at1 : (p.sampleX w x).at0 ≤ (p.sampleX w x).at1 := at0_le_at1 _ _

end

/-! ### The output pixels of a read (R148) -/

/-- Output pixel (x, y) has a byte among the `n` bytes of the pixel area from `b0` on. -/
def View.covers (w : View) (b0 n x y : Nat) : Prop :=
  y < w.height ∧ x < w.width ∧ ∃ b, b0 ≤ b ∧ b < b0 + n ∧ b / w.stride = y ∧ b % w.stride / 4 = x

section
variable {w : View} {b0 n : Nat}

/-- The same by the byte's place `u` in its row. -/
theorem covers_of_offset {y u : Nat} (hy : y < w.height) (hx : u / 4 < w.width) (hu : u < w.stride)
    (h0 : b0 ≤ y * w.stride + u) (h1 : y * w.stride + u < b0 + n) : w.covers b0 n (u / 4) y := by
  refine ⟨hy, hx, y * w.stride + u, h0, h1, ?_, ?_⟩
  · rw [Nat.mul_comm, Nat.mul_add_div (Nat.lt_of_le_of_lt (Nat.zero_le _) hu), Nat.div_eq_of_lt hu, Nat.add_zero]
  · rw [Nat.mul_comm, Nat.mul_add_mod, Nat.mod_eq_of_lt hu]

theorem offset_of_covers {x y : Nat} (hs : 0 < w.stride) (h : w.covers b0 n x y) :
    ∃ u, u < w.stride ∧ u / 4 = x ∧ b0 ≤ y * w.stride + u ∧ y * w.stride + u < b0 + n := by
  obtain ⟨-, -, b, h0, h1, rfl, hx⟩ := h
  have hb : b / w.stride * w.stride + b % w.stride = b := Nat.div_add_mod' b w.stride
  exact ⟨b % w.stride, Nat.mod_lt _ hs, hx, by rwa [hb], by rwa [hb]⟩

/-- Every pixel of the read stands in a span. -/
theorem exists_span {x y : Nat} (hs : 0 < w.stride) (h : w.covers b0 n x y) :
    ∃ sp ∈ pixelSpans w b0 (b0 + n - 1), sp.y = y ∧ sp.first ≤ x ∧ x ≤ sp.last := by
  obtain ⟨u, hu, rfl, h0, h1⟩ := offset_of_covers hs h
  obtain ⟨hy, hx, -⟩ := h
  have hlow : b0 / w.stride ≤ y := by
    refine Nat.lt_succ_iff.1 ((Nat.div_lt_iff_lt_mul hs).2 ?_)
    rw [Nat.succ_mul]
    omega
  have hhigh : y ≤ (b0 + n - 1) / w.stride := (Nat.le_div_iff_mul_le hs).2 (by omega)
  refine ⟨{ y := y, first := (b0 - y * w.stride) / 4,
            last := min (min (b0 + n - 1 - y * w.stride) (w.stride - 1) / 4) (w.width - 1) },
    List.mem_filterMap.2 ⟨y - b0 / w.stride, List.mem_range.2 (by omega), ?_⟩, rfl, ?_, ?_⟩
  · dsimp only
    rw [Nat.add_sub_cancel' hlow, if_pos ⟨hy, by omega⟩]
  · dsimp only
    omega
  · dsimp only
    omega

/-- The last output column of a row's bytes `u0` to `u1`, as that of a byte among them. -/
theorem last_column {u0 u1 width : Nat} (h : u0 ≤ u1) (hw : u0 < 4 * width) :
    ∃ u, u0 ≤ u ∧ u ≤ u1 ∧ min (u1 / 4) (width - 1) = u / 4 ∧ u / 4 < width ∧ u0 / 4 ≤ u / 4 := by
  rcases Nat.le_total u1 (4 * width - 1) with hle | hle
  · exact ⟨u1, h, Nat.le_refl _, Nat.min_eq_left (by omega), by omega, Nat.div_le_div_right h⟩
  · exact ⟨4 * width - 1, by omega, hle, (Nat.min_eq_right (by omega)).trans (by omega), by omega, by omega⟩

/-- The ends of a span are pixels of the read. -/
theorem span_covers {sp : PixelSpan} (hs : 0 < w.stride) (hn : 0 < n) (h : sp ∈ pixelSpans w b0 (b0 + n - 1)) :
    w.covers b0 n sp.first sp.y ∧ w.covers b0 n sp.last sp.y ∧ sp.first ≤ sp.last := by
  obtain ⟨i, hi, h⟩ := List.mem_filterMap.1 h
  rw [List.mem_range] at hi
  dsimp only at h
  generalize hy : b0 / w.stride + i = y at h
  have hlow : b0 < y * w.stride + w.stride := by
    rw [← Nat.succ_mul]
    exact (Nat.div_lt_iff_lt_mul hs).1 (by omega)
  have hle : b0 / w.stride ≤ (b0 + n - 1) / w.stride := Nat.div_le_div_right (by omega)
  have hhigh : y * w.stride ≤ b0 + n - 1 := (Nat.le_div_iff_mul_le hs).1 (by omega)
  clear hi hy hle
  generalize hu0 : b0 - y * w.stride = u0 at h
  generalize hu1 : min (b0 + n - 1 - y * w.stride) (w.stride - 1) = u1 at h
  have hord : u0 ≤ u1 := by omega
  have hrow : u1 < w.stride := by omega
  have hfirst : b0 ≤ y * w.stride + u0 := by omega
  have hlast : y * w.stride + u1 < b0 + n := by omega
  clear hu0 hu1 hlow hhigh
  split at h
  · next hin =>
    obtain ⟨hyh, hw⟩ := hin
    cases h
    obtain ⟨u, h0, h1, hu, huw, hcol⟩ := last_column hord hw
    refine ⟨covers_of_offset (y := y) hyh (by omega) (by omega) hfirst (by omega), ?_, ?_⟩
    · dsimp only
      rw [hu]
      exact covers_of_offset hyh huw (by omega) (by omega) (by omega)
    · dsimp only
      rw [hu]
      exact hcol
  · cases h

end

/-! ### The runs of a part (R148) -/

/-- A column of a row lies in a run of a list. -/
def inRuns (rs : List Run) (row col : Nat) : Prop := ∃ x ∈ rs, x.row = row ∧ x.first ≤ col ∧ col ≤ x.last

/-- Two runs of one row joined. -/
def Run.join (r x : Run) : Run where
  row := x.row
  first := min r.first x.first
  last := max r.last x.last

section
variable (r : Run) (xs : List Run)

theorem insertRun_cons (x : Run) : insertRun r (x :: xs) =
    if r.row < x.row then r :: x :: xs else if r.row = x.row then r.join x :: xs else x :: insertRun r xs := rfl

/-- The rows of the runs after a run is put among them. -/
theorem mem_insertRun_row {z : Run} (h : z ∈ insertRun r xs) : z.row = r.row ∨ ∃ x ∈ xs, z.row = x.row := by
  induction xs with
  | nil => exact .inl (congrArg Run.row (List.mem_singleton.1 h))
  | cons x xs ih =>
    rw [insertRun_cons] at h
    split at h
    · obtain rfl | h := List.mem_cons.1 h
      · exact .inl rfl
      · exact .inr ⟨z, h, rfl⟩
    · split at h
      · obtain rfl | h := List.mem_cons.1 h
        · exact .inr ⟨x, List.mem_cons_self, rfl⟩
        · exact .inr ⟨z, List.mem_cons_of_mem _ h, rfl⟩
      · obtain rfl | h := List.mem_cons.1 h
        · exact .inr ⟨z, List.mem_cons_self, rfl⟩
        · exact (ih h).imp_right fun ⟨y, hy, he⟩ => ⟨y, List.mem_cons_of_mem _ hy, he⟩

theorem insertRun_sorted (h : xs.Pairwise fun a b => a.row < b.row) :
    (insertRun r xs).Pairwise fun a b => a.row < b.row := by
  induction xs with
  | nil => exact List.pairwise_singleton ..
  | cons x xs ih =>
    obtain ⟨hx, hxs⟩ := List.pairwise_cons.1 h
    rw [insertRun_cons]
    split
    · next hlt =>
      refine List.pairwise_cons.2 ⟨fun z hz => ?_, h⟩
      obtain rfl | hz := List.mem_cons.1 hz
      · exact hlt
      · exact Nat.lt_trans hlt (hx z hz)
    · split
      · exact List.pairwise_cons.2 ⟨hx, hxs⟩
      · refine List.pairwise_cons.2 ⟨fun z hz => ?_, ih hxs⟩
        obtain he | ⟨y, hy, he⟩ := mem_insertRun_row r xs hz
        · rw [he]
          omega
        · rw [he]
          exact hx y hy

/-- What holds of the runs put together holds of each run that results, where joining keeps it. -/
theorem forall_insertRun {P : Run → Prop} (hj : ∀ a b, a.row = b.row → P a → P b → P (a.join b)) (hr : P r)
    (h : ∀ x ∈ xs, P x) : ∀ z ∈ insertRun r xs, P z := by
  induction xs with
  | nil => exact fun z hz => List.mem_singleton.1 hz ▸ hr
  | cons x xs ih =>
    rw [List.forall_mem_cons] at h
    obtain ⟨hx, hxs⟩ := h
    rw [insertRun_cons]
    split
    · exact List.forall_mem_cons.2 ⟨hr, List.forall_mem_cons.2 ⟨hx, hxs⟩⟩
    · split
      · next he => exact List.forall_mem_cons.2 ⟨hj r x he hr hx, hxs⟩
      · exact List.forall_mem_cons.2 ⟨hx, ih hxs⟩

/-- No column is lost. -/
theorem inRuns_insertRun {row col : Nat} (h : inRuns (r :: xs) row col) : inRuns (insertRun r xs) row col := by
  induction xs with
  | nil => exact h
  | cons x xs ih =>
    obtain ⟨z, hz, hrow, hlo, hhi⟩ := h
    rw [insertRun_cons]
    split
    · exact ⟨z, hz, hrow, hlo, hhi⟩
    · split
      · next he =>
        obtain rfl | hz := List.mem_cons.1 hz
        · exact ⟨z.join x, List.mem_cons_self, he ▸ hrow, (Nat.min_le_left ..).trans hlo, hhi.trans (Nat.le_max_left ..)⟩
        · obtain rfl | hz := List.mem_cons.1 hz
          · exact ⟨r.join z, List.mem_cons_self, hrow, (Nat.min_le_right ..).trans hlo,
              hhi.trans (Nat.le_max_right ..)⟩
          · exact ⟨z, List.mem_cons_of_mem _ hz, hrow, hlo, hhi⟩
      · by_cases hzx : z = x
        · exact ⟨z, hzx ▸ List.mem_cons_self, hrow, hlo, hhi⟩
        · have hz' : z ∈ r :: xs := by
            simpa [hzx] using hz
          obtain ⟨y, hy, h⟩ := ih ⟨z, hz', hrow, hlo, hhi⟩
          exact ⟨y, List.mem_cons_of_mem _ hy, h⟩

end

/-- Runs put among runs one after another. -/
def insertRuns (rs acc : List Run) : List Run := rs.foldl (fun acc r => insertRun r acc) acc

section
variable (rs : List Run)

theorem insertRuns_sorted (acc : List Run) (h : acc.Pairwise fun a b => a.row < b.row) :
    (insertRuns rs acc).Pairwise fun a b => a.row < b.row := by
  induction rs generalizing acc with
  | nil => exact h
  | cons r rs ih => exact ih _ (insertRun_sorted r acc h)

theorem forall_insertRuns {P : Run → Prop} (hj : ∀ a b, a.row = b.row → P a → P b → P (a.join b)) (acc : List Run)
    (hrs : ∀ r ∈ rs, P r) (h : ∀ x ∈ acc, P x) : ∀ z ∈ insertRuns rs acc, P z := by
  induction rs generalizing acc with
  | nil => exact h
  | cons r rs ih =>
    rw [List.forall_mem_cons] at hrs
    obtain ⟨hr, hrs⟩ := hrs
    exact ih _ hrs (forall_insertRun r acc hj hr h)

theorem inRuns_insertRuns {row col : Nat} (acc : List Run) (h : inRuns rs row col ∨ inRuns acc row col) :
    inRuns (insertRuns rs acc) row col := by
  induction rs generalizing acc with
  | nil => exact h.resolve_left fun ⟨_, hx, _⟩ => nomatch hx
  | cons r rs ih =>
    refine ih _ ?_
    obtain ⟨z, hz, hin⟩ | ⟨z, hz, hin⟩ := h
    · obtain rfl | hz := List.mem_cons.1 hz
      · exact .inr (inRuns_insertRun z acc ⟨z, List.mem_cons_self, hin⟩)
      · exact .inl ⟨z, hz, hin⟩
    · exact .inr (inRuns_insertRun r acc ⟨z, List.mem_cons_of_mem _ hz, hin⟩)

end

/-! ### The pieces of a run (R149) -/

/-- What each piece is that a run's words from `col` at `address` are cut into. -/
structure IsPiece (second : Bool) (m : ModuleId) (row col start words : Nat) (f : FetchSpec) : Prop where
  second : f.second = second
  module : f.module = m
  row : f.row = row
  first : col ≤ f.col
  last : f.col + f.words ≤ col + words
  address : f.address = start + 4 * (f.col - col)
  pos : 1 ≤ f.words
  most : f.words ≤ 64
  page : start % 4 = 0 → f.address % 4096 + 4 * f.words ≤ 4096

section
variable (second : Bool) (m : ModuleId) (row : Nat)

/-- The length of the first piece: 256 bytes and the next 4096-byte boundary bound it (log 13). -/
def pieceLength (address words : Nat) : Nat := min words (min 64 (max 1 ((4096 - address % 4096) / 4)))

theorem cutRun_succ (fuel col address : Nat) {words : Nat} (h : words ≠ 0) :
    cutRun second m row (fuel + 1) col address words =
      { second := second, module := m, row := row, col := col, words := pieceLength address words, address := address }
        :: cutRun second m row fuel (col + pieceLength address words) (address + 4 * pieceLength address words)
          (words - pieceLength address words) := if_neg h

theorem cutRun_zero (fuel col address : Nat) : cutRun second m row fuel col address 0 = [] := by
  cases fuel with
  | zero => rfl
  | succ fuel => exact if_pos rfl

theorem pieceLength_bounds (address : Nat) {words : Nat} (h : words ≠ 0) :
    1 ≤ pieceLength address words ∧ pieceLength address words ≤ 64 ∧ pieceLength address words ≤ words
      ∧ (address % 4 = 0 → address % 4096 + 4 * pieceLength address words ≤ 4096) := by
  unfold pieceLength
  omega

theorem isPiece_of_mem {fuel col address words : Nat} {f : FetchSpec}
    (h : f ∈ cutRun second m row fuel col address words) : IsPiece second m row col address words f := by
  induction fuel generalizing col address words with
  | zero => cases h
  | succ fuel ih =>
    by_cases hw : words = 0
    · rw [hw, cutRun_zero] at h
      cases h
    · rw [cutRun_succ second m row fuel col address hw] at h
      obtain ⟨h1, h2, h3, h4⟩ := pieceLength_bounds address hw
      generalize pieceLength address words = n at *
      obtain rfl | h := List.mem_cons.1 h
      · exact ⟨rfl, rfl, rfl, Nat.le_refl _, Nat.add_le_add_left h3 _, by simp, h1, h2, h4⟩
      · obtain ⟨s1, s2, s3, s4, s5, s6, s7, s8, s9⟩ := ih h
        exact ⟨s1, s2, s3, by omega, by omega, by omega, s7, s8, fun ha => s9 (by omega)⟩

/-- The pieces follow each other. -/
theorem cutRun_pairwise (fuel col address words : Nat) :
    (cutRun second m row fuel col address words).Pairwise fun f g => f.col + f.words ≤ g.col := by
  induction fuel generalizing col address words with
  | zero => exact List.Pairwise.nil
  | succ fuel ih =>
    by_cases hw : words = 0
    · rw [hw, cutRun_zero]
      exact List.Pairwise.nil
    · rw [cutRun_succ second m row fuel col address hw]
      exact List.pairwise_cons.2 ⟨fun g hg => (isPiece_of_mem second m row hg).first, ih ..⟩

/-- Together they hold every word. -/
theorem exists_piece {fuel col address words c : Nat} (hf : words ≤ fuel) (h0 : col ≤ c) (h1 : c < col + words) :
    ∃ f ∈ cutRun second m row fuel col address words, f.col ≤ c ∧ c < f.col + f.words := by
  induction fuel generalizing col address words with
  | zero => omega
  | succ fuel ih =>
    have hw : words ≠ 0 := by omega
    obtain ⟨hpos, -, hle, -⟩ := pieceLength_bounds address hw
    rw [cutRun_succ second m row fuel col address hw]
    by_cases hc : c < col + pieceLength address words
    · exact ⟨_, List.mem_cons_self, h0, hc⟩
    · obtain ⟨f, hfm, hin⟩ := ih (col := col + pieceLength address words)
        (address := address + 4 * pieceLength address words) (words := words - pieceLength address words) (by omega)
        (by omega) (by omega)
      exact ⟨f, List.mem_cons_of_mem _ hfm, hin⟩

end

end Sys2Proof.Machine
end

section
/-! O54: an answer to a source fetch (R149, R150, R152, R154), and what a fetch set holds (R148, R149). -/

namespace Sys2Proof.Machine

-- Declaration after declaration: elaborated side by side, those of the joined text need more memory than the check has.
set_option Elab.async false

/-! ### The fetches of a part (R148, R149) -/

/-- The part of an output frame: S, or I. -/
def OutputFrame.part (o : OutputFrame) (second : Bool) : Option Part := if second then o.second else o.serving

/-- A source row that the pixels of an output row sample. -/
def Part.samplesRow (p : Part) (w : View) (y row : Nat) : Prop := row = (p.sampleY w y).at0 ∨ row = (p.sampleY w y).at1

/-- A run from the least column that a span of its row samples to the greatest. -/
structure Part.RunOf (p : Part) (w : View) (spans : List PixelSpan) (r : Run) : Prop where
  ordered : r.first ≤ r.last
  least : ∃ sp ∈ spans, p.samplesRow w sp.y r.row ∧ r.first = (p.sampleX w sp.first).at0
  greatest : ∃ sp ∈ spans, p.samplesRow w sp.y r.row ∧ r.last = (p.sampleX w sp.last).at1

section
variable {p : Part} {w : View} {spans : List PixelSpan}

theorem partRuns_of_slot (h : p.slot ≠ none) :
    partRuns w p spans = insertRuns (spans.map (spanRuns w p)).flatten [] :=
  if_neg fun hn => h (Option.isNone_iff_eq_none.1 hn)

theorem slot_of_mem_partRuns {r : Run} (h : r ∈ partRuns w p spans) : p.slot ≠ none := by
  intro hn
  rw [partRuns, if_pos (Option.isNone_iff_eq_none.2 hn)] at h
  cases h

theorem partRuns_sorted (p : Part) (w : View) (spans : List PixelSpan) :
    (partRuns w p spans).Pairwise fun a b => a.row < b.row := by
  by_cases h : p.slot = none
  · rw [partRuns, if_pos (Option.isNone_iff_eq_none.2 h)]
    exact List.Pairwise.nil
  · rw [partRuns_of_slot h]
    exact insertRuns_sorted _ [] List.Pairwise.nil

theorem RunOf_join {a b : Run} (h : a.row = b.row) (ha : p.RunOf w spans a) (hb : p.RunOf w spans b) :
    p.RunOf w spans (a.join b) where
  ordered := (Nat.min_le_left ..).trans (ha.ordered.trans (Nat.le_max_left ..))
  least := by
    rcases Nat.le_total a.first b.first with hle | hle
    · obtain ⟨sp, hsp, hrow, hf⟩ := ha.least
      exact ⟨sp, hsp, h ▸ hrow, (Nat.min_eq_left hle).trans hf⟩
    · obtain ⟨sp, hsp, hrow, hf⟩ := hb.least
      exact ⟨sp, hsp, hrow, (Nat.min_eq_right hle).trans hf⟩
  greatest := by
    rcases Nat.le_total a.last b.last with hle | hle
    · obtain ⟨sp, hsp, hrow, hl⟩ := hb.greatest
      exact ⟨sp, hsp, hrow, (Nat.max_eq_right hle).trans hl⟩
    · obtain ⟨sp, hsp, hrow, hl⟩ := ha.greatest
      exact ⟨sp, hsp, h ▸ hrow, (Nat.max_eq_left hle).trans hl⟩

/-- The runs of one span. -/
theorem mem_spanRuns {sp : PixelSpan} {r : Run} : r ∈ spanRuns w p sp ↔
    p.samplesRow w sp.y r.row ∧ r.first = (p.sampleX w sp.first).at0 ∧ r.last = (p.sampleX w sp.last).at1 := by
  unfold spanRuns Part.samplesRow
  cases r
  simp only [List.mem_cons, List.not_mem_nil, or_false, Run.mk.injEq, or_and_right]

theorem partRuns_runOf (hsp : ∀ sp ∈ spans, sp.first ≤ sp.last) {r : Run} (h : r ∈ partRuns w p spans) :
    p.RunOf w spans r := by
  rw [partRuns_of_slot (slot_of_mem_partRuns h)] at h
  refine forall_insertRuns _ (fun a b hab => RunOf_join hab) [] (fun z hz => ?_) (fun z hz => nomatch hz) r h
  obtain ⟨l, hl, hz⟩ := List.mem_flatten.1 hz
  obtain ⟨sp, hs, rfl⟩ := List.mem_map.1 hl
  obtain ⟨hrow, hf, hla⟩ := mem_spanRuns.1 hz
  refine ⟨?_, ⟨sp, hs, hrow, hf⟩, ⟨sp, hs, hrow, hla⟩⟩
  rw [hf, hla]
  exact (sampleX_at0_mono p w (hsp sp hs)).trans (sampleX_at0_le_at1 p w)

/-- Every source pixel that a pixel of a span samples lies in a run. -/
theorem inRuns_partRuns (hslot : p.slot ≠ none) {sp : PixelSpan} (hsp : sp ∈ spans) {x row col : Nat} (h0 : sp.first ≤ x)
    (h1 : x ≤ sp.last) (hrow : p.samplesRow w sp.y row)
    (hcol : col = (p.sampleX w x).at0 ∨ col = (p.sampleX w x).at1) : inRuns (partRuns w p spans) row col := by
  rw [partRuns_of_slot hslot]
  have hlo : (p.sampleX w sp.first).at0 ≤ (p.sampleX w x).at0 := sampleX_at0_mono p w h0
  have hmid : (p.sampleX w x).at0 ≤ (p.sampleX w x).at1 := sampleX_at0_le_at1 p w
  have hhi : (p.sampleX w x).at1 ≤ (p.sampleX w sp.last).at1 := sampleX_at1_mono p w h1
  refine inRuns_insertRuns _ [] (.inl ⟨⟨row, (p.sampleX w sp.first).at0, (p.sampleX w sp.last).at1⟩, ?_, rfl, ?_, ?_⟩)
  · exact List.mem_flatten.2 ⟨_, List.mem_map.2 ⟨sp, hsp, rfl⟩, mem_spanRuns.2 ⟨hrow, rfl, rfl⟩⟩
  · dsimp only
    omega
  · dsimp only
    omega

/-- The fetches of a run are its pieces. -/
theorem isPiece_of_mem_runFetches {second : Bool} {r : Run} {f : FetchSpec} (h : f ∈ runFetches second p r) :
    IsPiece second p.module r.row r.first (p.base + r.row * p.stride + 4 * r.first) (r.last - r.first + 1) f :=
  isPiece_of_mem _ _ _ h

theorem mem_partFetches {second : Bool} {q : Option Part} {f : FetchSpec} : f ∈ partFetches w second q spans ↔
    ∃ p, q = some p ∧ ∃ r ∈ partRuns w p spans, f ∈ runFetches second p r := by
  cases q with
  | none => exact iff_of_false nofun nofun
  | some p =>
    unfold partFetches
    simp [List.mem_flatten]

theorem second_of_mem {second : Bool} {q : Option Part} {f : FetchSpec} (h : f ∈ partFetches w second q spans) :
    f.second = second := by
  obtain ⟨p, -, r, -, hf⟩ := mem_partFetches.1 h
  exact (isPiece_of_mem_runFetches hf).second

/-- The fetches of a part by increasing row and column, no word twice. -/
theorem partFetches_pairwise (second : Bool) (q : Option Part) : (partFetches w second q spans).Pairwise fun f g =>
      f.row < g.row ∨ f.row = g.row ∧ f.col + f.words ≤ g.col := by
  cases q with
  | none => exact List.Pairwise.nil
  | some p =>
    show ((partRuns w p spans).map (runFetches second p)).flatten.Pairwise _
    refine List.pairwise_flatten.2 ⟨fun l hl => ?_, List.pairwise_map.2 ?_⟩
    · obtain ⟨r, -, rfl⟩ := List.mem_map.1 hl
      refine (cutRun_pairwise ..).imp_of_mem fun {f g} hf hg h => .inr ⟨?_, h⟩
      exact (isPiece_of_mem_runFetches hf).row.trans (isPiece_of_mem_runFetches hg).row.symm
    · refine (partRuns_sorted p w spans).imp fun {a b} h f hf g hg => .inl ?_
      rwa [(isPiece_of_mem_runFetches hf).row, (isPiece_of_mem_runFetches hg).row]

/-- A piece of a run lies within it, and its address is that of its first word. -/
theorem piece_address {second : Bool} {r : Run} {f : FetchSpec} (h : f ∈ runFetches second p r) :
    f.address = p.base + f.row * p.stride + 4 * f.col := by
  have hp := isPiece_of_mem_runFetches h
  have h1 := hp.address
  have h2 := hp.first
  rw [hp.row]
  omega

theorem piece_page {second : Bool} {r : Run} {f : FetchSpec} (h : f ∈ runFetches second p r) (hb : p.base % 4 = 0)
    (hs : p.stride % 4 = 0) : f.address % 4096 + 4 * f.words ≤ 4096 := by
  refine (isPiece_of_mem_runFetches h).page ?_
  obtain ⟨k, hk⟩ := Nat.dvd_of_mod_eq_zero hs
  rw [hk, Nat.mul_left_comm]
  omega

end

/-! ### The fetch set of a read -/

section
variable {w : View} {o : OutputFrame} {off len : Nat}

/-- The rows of output pixels that the read covers. -/
def readSpans (w : View) (off len : Nat) : List PixelSpan := pixelSpans w (off - 4096) (off - 4096 + len - 1)

theorem mem_fetchSet {f : FetchSpec} : f ∈ fetchSet w o off len ↔
    ∃ second p, o.part second = some p ∧ ∃ r ∈ partRuns w p (readSpans w off len), f ∈ runFetches second p r := by
  show f ∈ partFetches w false o.serving (readSpans w off len) ++ partFetches w true o.second (readSpans w off len) ↔ _
  rw [List.mem_append, mem_partFetches, mem_partFetches, Bool.exists_bool]
  rfl

theorem readSpans_ordered (hs : 0 < w.stride) (hlen : 0 < len) : ∀ sp ∈ readSpans w off len, sp.first ≤ sp.last :=
  fun _ h => (span_covers hs hlen h).2.2

/-- The set holds every source pixel that the read's pixels sample. -/
theorem fetchSet_complete (hs : 0 < w.stride) {second : Bool} {p : Part} {x y row col : Nat}
    (hp : o.part second = some p) (hslot : p.slot ≠ none) (hc : w.covers (off - 4096) len x y)
    (hrow : p.samplesRow w y row) (hcol : col = (p.sampleX w x).at0 ∨ col = (p.sampleX w x).at1) :
    ∃ f ∈ fetchSet w o off len, f.second = second ∧ f.row = row ∧ f.col ≤ col ∧ col < f.col + f.words := by
  obtain ⟨sp, hsp, rfl, h0, h1⟩ := exists_span hs hc
  obtain ⟨r, hr, rfl, hlo, hhi⟩ := inRuns_partRuns hslot hsp h0 h1 hrow hcol
  obtain ⟨f, hf, h⟩ := exists_piece second p.module r.row (col := r.first) (words := r.last - r.first + 1)
    (address := p.base + r.row * p.stride + 4 * r.first) (Nat.le_refl _) hlo (by omega)
  have hpiece := isPiece_of_mem_runFetches (p := p) (r := r) hf
  exact ⟨f, mem_fetchSet.2 ⟨second, p, hp, r, hr, hf⟩, hpiece.second, hpiece.row, h⟩

/-- Each fetch of the set lies in a sampled row, between the columns sampled there. -/
theorem fetchSet_sampled (hs : 0 < w.stride) (hlen : 0 < len) {f : FetchSpec} (h : f ∈ fetchSet w o off len) :
    ∃ p, o.part f.second = some p ∧ p.slot ≠ none ∧ f.module = p.module
      ∧ f.address = p.base + f.row * p.stride + 4 * f.col ∧ 1 ≤ f.words ∧ f.words ≤ 64
      ∧ (p.base % 4 = 0 → p.stride % 4 = 0 → f.address % 4096 + 4 * f.words ≤ 4096)
      ∧ ∃ x0 x1 y0 y1, w.covers (off - 4096) len x0 y0 ∧ w.covers (off - 4096) len x1 y1
        ∧ p.samplesRow w y0 f.row ∧ p.samplesRow w y1 f.row
        ∧ (p.sampleX w x0).at0 ≤ f.col ∧ f.col + f.words ≤ (p.sampleX w x1).at1 + 1 := by
  obtain ⟨second, p, hp, r, hr, hf⟩ := mem_fetchSet.1 h
  have hpiece := isPiece_of_mem_runFetches hf
  obtain ⟨hord, ⟨sp0, hsp0, hrow0, h0⟩, ⟨sp1, hsp1, hrow1, h1⟩⟩ := partRuns_runOf (readSpans_ordered hs hlen) hr
  obtain ⟨hc0, -, -⟩ := span_covers hs hlen hsp0
  obtain ⟨-, hc1, -⟩ := span_covers hs hlen hsp1
  have hfirst := hpiece.first
  have hlast := hpiece.last
  refine ⟨p, hpiece.second ▸ hp, slot_of_mem_partRuns hr, hpiece.module, piece_address hf, hpiece.pos, hpiece.most,
    piece_page hf, sp0.first, sp1.last, sp0.y, sp1.y, hc0, hc1, hpiece.row ▸ hrow0, hpiece.row ▸ hrow1, ?_, ?_⟩
  · rw [← h0]
    exact hfirst
  · rw [← h1]
    omega

theorem fetchSet_pairwise : (fetchSet w o off len).Pairwise fun f g =>
    f.second = false ∧ g.second = true
      ∨ f.second = g.second ∧ (f.row < g.row ∨ f.row = g.row ∧ f.col + f.words ≤ g.col) := by
  have hpart : ∀ second q, (partFetches w second q (readSpans w off len)).Pairwise fun f g =>
      f.second = false ∧ g.second = true
        ∨ f.second = g.second ∧ (f.row < g.row ∨ f.row = g.row ∧ f.col + f.words ≤ g.col) := fun second q =>
    (partFetches_pairwise second q).imp_of_mem fun {f g} hf hg h =>
      .inr ⟨(second_of_mem hf).trans (second_of_mem hg).symm, h⟩
  exact List.pairwise_append.2 ⟨hpart false _, hpart true _, fun f hf g hg =>
    .inl ⟨second_of_mem hf, second_of_mem hg⟩⟩

end

/-! ### An answer to a fetch (R149, R150, R152, R154) -/

section
variable {s : State} {e : EntryId} {r : ReadEntry} {f : Fetch} {tag : Byte} {id : Nat}

theorem fetchAnswer_data (hr : s.comp.table[e].read = some r) (hst : r.state = .fetching)
    (htag : s.comp.table[e].tag = tag) (hf : r.outstanding.find? (·.id == id) = some f) (p : Payload) :
    s.fetchAnswer e tag id (.data p) = s.receiveFetch e r f p := by
  unfold State.fetchAnswer
  rw [hr]
  dsimp only
  rw [if_pos ⟨htag, hst⟩, hf]

theorem fetchAnswer_error (hr : s.comp.table[e].read = some r) (hst : r.state = .fetching)
    (htag : s.comp.table[e].tag = tag) (hf : r.outstanding.find? (·.id == id) = some f) :
    s.fetchAnswer e tag id .error = s.failEntry e (r.drop f) f.spec.module reasonError := by
  unfold State.fetchAnswer
  rw [hr]
  dsimp only
  rw [if_pos ⟨htag, hst⟩, hf]

/-- An answer that the entry does not wait for is late. -/
theorem fetchAnswer_late (h : ∀ r, s.comp.table[e].read = some r → s.comp.table[e].tag = tag → r.state = .fetching →
    r.outstanding.find? (·.id == id) = none) (a : MemAnswer) : s.fetchAnswer e tag id a = s.lateAnswer id := by
  unfold State.fetchAnswer
  cases hr : s.comp.table[e].read with
  | none => rfl
  | some r =>
    dsimp only
    split
    · next hc => rw [h r hr hc.1 hc.2]
    · rfl

theorem issue_nothing (t : Time) (d fuel n : Nat) (h : r.toIssue = []) : r.issue t d fuel n = (r, n) := by
  cases fuel with
  | zero => rfl
  | succ fuel =>
    unfold ReadEntry.issue
    rw [h]

/-- A read with room for a fetch issues its first waiting one. -/
theorem issue_one {t : Time} {d : Nat} (n : Nat) {y : FetchSpec} {ys : List FetchSpec} (h : r.toIssue = y :: ys)
    (hroom : r.outstanding.length < 64) (ht : t.toNat + d < 2 ^ 64) : r.issue t d 1 n =
      ({ r with
          outstanding := r.outstanding ++ [{ id := n, spec := y, deadline := BitVec.ofNat 64 (t.toNat + d) }]
          toIssue := ys }, n + 1) := by
  unfold ReadEntry.issue
  rw [h]
  dsimp only
  rw [if_pos hroom, laterBy, if_pos ht]
  rfl

/-- What a matched answer with data leaves: the read settled, then what it issues. -/
theorem receiveFetch_of_issue {p : Payload} {r0 r' : ReadEntry} {n : Nat} (hs : (r.receive f p).settle = r0)
    (h : r0.issue s.time s.comp.views[r0.view].timeout 1 s.serial = (r', n)) :
    s.receiveFetch e r f p = { s.putRead e r' with serial := n } := by
  unfold State.receiveFetch State.issueFetches
  rw [hs, h]
  rfl

/-- A read that still waits for something stays FETCHING. -/
theorem settle_waiting (h : r.outstanding ≠ [] ∨ r.toIssue ≠ []) : r.settle = r := by
  unfold ReadEntry.settle
  rw [if_neg]
  rw [Bool.and_eq_true, List.isEmpty_iff, List.isEmpty_iff]
  exact fun ⟨h1, h2⟩ => h.elim (fun h => h h1) fun h => h h2

theorem settle_done (h1 : r.outstanding = []) (h2 : r.toIssue = []) : r.settle = { r with state := .complete } := by
  unfold ReadEntry.settle
  rw [h1, h2]
  rfl

theorem exec_fetchAnswer (t : Time) (a : MemAnswer) (s : State) :
    exec (.fetchAnswer t e tag id a) s = .next ((s.atTime t).fetchAnswer e tag id a).finish :=
  rfl

end

/-- Settles O54: the answer's cases by `fetchAnswer_data`, `fetchAnswer_error` and `fetchAnswer_late`; the fetch set by
`fetchSet_complete`, `fetchSet_sampled` and `fetchSet_pairwise`. -/
theorem fetchAnswerTakes : Obligations.FetchAnswerTakes := by
  refine ⟨fun t e tag id r s hr hst => ?taken, fun t e tag id a s hno => ?idle, fun w o off len _ hlen hs => ?set⟩
  case taken =>
    intro put
    have hr1 : (s.atTime t).comp.table[e].read = some r := hr
    refine ⟨fun f p htag hf => ?matched, fun a h => ?late⟩
    case late =>
      rw [exec_fetchAnswer, fetchAnswer_late (s := s.atTime t) fun r' hr' htag _ => ?_]
      · rfl
      · rw [hr1] at hr'
        cases hr'
        exact h.resolve_left fun hne => hne htag
    case matched =>
      have htag1 : (s.atTime t).comp.table[e].tag = tag := htag
      have hid : f.id = id := by simpa using List.find?_some hf
      subst hid
      intro left r1
      have data : ∀ {r0 r' : ReadEntry} {n : Nat}, (r.receive f p).settle = r0 →
          r0.issue t s.comp.views[r0.view].timeout 1 s.serial = (r', n) →
          exec (.fetchAnswer t e tag f.id (.data p)) s = .next ({ put r' with serial := n } : State).finish :=
        fun hs h => by
          rw [exec_fetchAnswer, fetchAnswer_data hr1 hst htag1 hf, receiveFetch_of_issue (s := s.atTime t) hs h]
          rfl
      refine ⟨fun hnone hleft => ?waits, fun hnone hleft => ?completes, fun y ys hnext hroom ht => ?issues, ?error⟩
      case waits => exact data (settle_waiting (.inl hleft)) (issue_nothing t _ 1 _ hnone)
      case completes => exact data (settle_done hleft hnone) (issue_nothing t _ 1 _ hnone)
      case issues =>
        exact data (settle_waiting (.inr fun h => nomatch hnext.symm.trans h)) (issue_one _ hnext hroom ht)
      case error =>
        rw [exec_fetchAnswer, fetchAnswer_error hr1 hst htag1 hf]
        rfl
  case idle =>
    rw [exec_fetchAnswer, fetchAnswer_late (s := s.atTime t) fun r hr _ hst => absurd hst (hno r hr)]
    rfl
  case set =>
    intro part covered
    exact ⟨fun second p x y hp hslot hc row col hrow hcol => fetchSet_complete hs hp hslot hc hrow hcol,
      fun f hf => fetchSet_sampled hs hlen hf, fetchSet_pairwise⟩

end Sys2Proof.Machine
end

section
/-! O55: a fetch deadline that is reached, and the failure of an entry (R152, R153). -/

namespace Sys2Proof.Machine

-- Declaration after declaration: elaborated side by side, those of the joined text need more memory than the check has.
set_option Elab.async false

/-! ### The earliest deadline (R145) -/

theorem earliest_concat (fs : List Fetch) (g : Fetch) : earliest (fs ++ [g]) =
    some ((earliest fs).elim g.deadline fun d => if g.deadline.toNat < d.toNat then g.deadline else d) := by
  unfold earliest
  rw [List.foldl_concat]
  generalize List.foldl _ none fs = best
  cases best with
  | none => rfl
  | some d =>
    show (if g.deadline.toNat < d.toNat then some g.deadline else some d) = _
    exact (apply_ite some ..).symm

/-- The earliest deadline is that of a fetch, and no fetch's precedes it. -/
theorem earliest_spec {fs : List Fetch} (h : fs ≠ []) : ∃ d, earliest fs = some d ∧ (∃ f ∈ fs, f.deadline = d)
    ∧ ∀ g ∈ fs, d.toNat ≤ g.deadline.toNat := by
  induction fs using List.reverseRecOn with
  | nil => exact absurd rfl h
  | append_singleton fs g ih =>
    have hlast : g ∈ fs ++ [g] := List.mem_append_right _ List.mem_cons_self
    rw [earliest_concat]
    by_cases hfs : fs = []
    · subst hfs
      exact ⟨_, rfl, ⟨g, hlast, rfl⟩, fun x hx => List.mem_singleton.1 hx ▸ Nat.le_refl _⟩
    · obtain ⟨d, hd, ⟨f, hf, hfd⟩, hmin⟩ := ih hfs
      rw [hd, Option.elim_some]
      split
      · next hlt =>
        refine ⟨_, rfl, ⟨g, hlast, rfl⟩, fun x hx => ?_⟩
        obtain hx | hx := List.mem_append.1 hx
        · exact (Nat.le_of_lt hlt).trans (hmin x hx)
        · exact List.mem_singleton.1 hx ▸ Nat.le_refl _
      · next hle =>
        refine ⟨d, rfl, ⟨f, List.mem_append_left _ hf, hfd⟩, fun x hx => ?_⟩
        obtain hx | hx := List.mem_append.1 hx
        · exact hmin x hx
        · exact List.mem_singleton.1 hx ▸ Nat.not_lt.1 hle

/-- A fetch whose deadline no other's precedes gives the earliest deadline. -/
theorem earliest_eq {fs : List Fetch} {f : Fetch} (hf : f ∈ fs)
    (hmin : ∀ g ∈ fs, f.deadline.toNat ≤ g.deadline.toNat) : earliest fs = some f.deadline := by
  obtain ⟨d, hd, ⟨g, hg, rfl⟩, hle⟩ := earliest_spec (List.ne_nil_of_mem hf)
  rw [hd, BitVec.eq_of_toNat_eq (Nat.le_antisymm (hle f hf) (hmin g hg))]

/-! ### The module a timeout names (R153) -/

/-- A timeout names the module of a fetch with the deadline, one of S before one of I. -/
theorem timedOutModule_eq {fs : List Fetch} {f : Fetch} (hf : f ∈ fs)
    (hsecond : f.spec.second = true → ∀ g ∈ fs, g.deadline = f.deadline → g.spec.second = true)
    (hmodule : ∀ g ∈ fs, g.spec.second = f.spec.second → g.spec.module = f.spec.module) :
    timedOutModule fs f.deadline = some f.spec.module := by
  unfold timedOutModule
  cases hfind : fs.find? fun g => g.deadline == f.deadline && !g.spec.second with
  | some g =>
    have hg := List.find?_some hfind
    rw [Bool.and_eq_true, beq_iff_eq, Bool.not_eq_true'] at hg
    obtain ⟨hd, hs⟩ := hg
    have hmem := List.mem_of_find?_eq_some hfind
    have hfs : f.spec.second = false := by
      rw [← Bool.not_eq_true]
      exact fun h => Bool.false_ne_true (hs.symm.trans (hsecond h g hmem hd))
    exact congrArg some (hmodule g hmem (hs.trans hfs.symm))
  | none =>
    have hno := List.find?_eq_none.1 hfind
    simp only [Bool.and_eq_true, beq_iff_eq, Bool.not_eq_true', not_and, Bool.not_eq_false] at hno
    cases hany : fs.find? fun g => g.deadline == f.deadline with
    | none => exact absurd (beq_self_eq_true f.deadline) (List.find?_eq_none.1 hany f hf)
    | some g =>
      have hd : g.deadline = f.deadline := by simpa using List.find?_some hany
      have hmem := List.mem_of_find?_eq_some hany
      exact congrArg some (hmodule g hmem ((hno g hmem hd).trans (hno f hf rfl).symm))

/-! ### The timeout and the failure of an entry -/

section
variable {s : State} {e : EntryId} {r : ReadEntry}

theorem fetchTimeout_reached {d : Time} {m : ModuleId} (hr : s.comp.table[e].read = some r) (hst : r.state = .fetching)
    (hd : earliest r.outstanding = some d) (ht : d.toNat ≤ s.time.toNat) (hm : timedOutModule r.outstanding d = some m) :
    s.fetchTimeout e = s.failEntry e r m reasonTimeout := by
  unfold State.fetchTimeout
  rw [hr]
  dsimp only
  rw [if_pos hst, hd]
  dsimp only
  rw [if_pos ht, hm]

theorem fetchTimeout_early (hr : s.comp.table[e].read = some r) (hst : r.state = .fetching)
    (h : ∀ f ∈ r.outstanding, s.time.toNat < f.deadline.toNat) : s.fetchTimeout e = s := by
  unfold State.fetchTimeout
  rw [hr]
  dsimp only
  rw [if_pos hst]
  by_cases hout : r.outstanding = []
  · rw [hout]
    rfl
  · obtain ⟨d, hd, ⟨f, hf, rfl⟩, -⟩ := earliest_spec hout
    rw [hd]
    exact if_neg (Nat.not_le.2 (h f hf))

theorem exec_fetchTimeout (t : Time) (s : State) :
    exec (.fetchTimeout t e) s = .next ((s.atTime t).fetchTimeout e).finish :=
  rfl

theorem frameNumber_record {f : FrameName} {o : OutputFrame} (hf : r.frame = .record f)
    (ho : s.comp.views[r.view].frame f = some o) : s.frameNumber r = o.number := by
  unfold State.frameNumber
  rw [hf]
  dsimp only
  rw [ho]
  rfl

end

/-- Settles O55: the earliest deadline by `earliest_eq`, the module by `timedOutModule_eq`, and the failure by its
definition. -/
theorem fetchTimeoutFailsTheEntry : Obligations.FetchTimeoutFailsTheEntry := by
  refine ⟨fun t e r s hr hst => ⟨fun f hf ht hmin hsecond hmodule => ?reached, fun h => ?early⟩,
    fun e r m reason f o s hf ho => ?fails⟩
  case reached =>
    rw [exec_fetchTimeout, fetchTimeout_reached (s := s.atTime t) hr hst (earliest_eq hf hmin) ht
      (timedOutModule_eq hf hsecond hmodule)]
    rfl
  case early => rw [exec_fetchTimeout, fetchTimeout_early (s := s.atTime t) hr hst h]
  case fails =>
    intro s1
    unfold State.failEntry
    rw [frameNumber_record hf ho]
    rfl

end Sys2Proof.Machine
end

section
/-! O56: the completion of a view read (R151), the pixels of its answer (R68, R69, R139 to R142, R172), and what follows a
read's leaving (R131, R135, R147). -/

namespace Sys2Proof.Machine

-- Declaration after declaration: elaborated side by side, those of the joined text need more memory than the check has.
set_option Elab.async false

/-! ### The bytes of the answer (R139, R172) -/

theorem leBytes_getD {k n : Nat} (h : k < n) (x : Nat) : (leBytes n x).getD k 0 = BitVec.ofNat 8 (x / 256 ^ k) := by
  induction n generalizing k x with
  | zero => exact absurd h (Nat.not_lt_zero k)
  | succ n ih =>
    cases k with
    | zero => rw [pow_zero, Nat.div_one]; rfl
    | succ k =>
      rw [Nat.pow_succ', ← Nat.div_div_eq_div_mul]
      exact ih (Nat.lt_of_succ_lt_succ h) _

theorem pixelAreaByte_eq (w : View) (pixel : Nat → Nat → Pixel) (b : Nat) : pixelAreaByte w pixel b =
    if b / w.stride < w.height ∧ b % w.stride < 4 * w.width then
      let px := pixel (b % w.stride / 4) (b / w.stride)
      BitVec.ofNat 8 ((px.y + 1024 * px.cb + 1048576 * px.cr) / 256 ^ (b % w.stride % 4))
    else 0 := by
  unfold pixelAreaByte inPicture Pixel.bytes
  simp only [Bool.and_eq_true, decide_eq_true_eq, leBytes_getD (Nat.mod_lt _ (Nat.zero_lt_succ 3))]

section
variable {s : State} {e : EntryId} {r : ReadEntry} {f : FrameName} {o : OutputFrame}

theorem completeRead_of_complete (hr : s.comp.table[e].read = some r) (hst : r.state = .complete)
    (hf : r.frame = .record f) (ho : s.comp.views[r.view].frame f = some o) :
    s.completeRead e = ((s.answer r.place (.ok (pixelAnswer s.comp.views[r.view] o r.source r.offset r.len))).freeEntry
      e).afterLeave r.view := by
  unfold State.completeRead
  rw [hr]
  dsimp only
  rw [hst, hf]
  dsimp only
  rw [ho]

theorem exec_viewReadCompletion (t : Time) (s : State) :
    exec (.viewReadCompletion t e) s = .next ((s.atTime t).completeRead e).finish :=
  rfl

end

/-! ### What follows a read's leaving (R131, R135, R147) -/

section
variable {s : State} {v : ViewId}

theorem isWaitingHeader_iff (v : ViewId) (r : ReadEntry) : r.isWaitingHeader v = true ↔
    r.view = v ∧ r.kind = .header ∧ r.offset = 0 ∧ r.state = .waitingOpen := by
  unfold ReadEntry.isWaitingHeader
  simp only [Bool.and_eq_true, beq_iff_eq, and_assoc]

theorem mem_waitingHeaders (place : Nat) : place ∈ s.waitingHeaders v ↔
    ∃ (e : EntryId) (r : ReadEntry), s.comp.table[e].read = some r ∧ r.view = v ∧ r.kind = .header ∧ r.offset = 0
      ∧ r.state = .waitingOpen ∧ r.place = place := by
  unfold State.waitingHeaders
  rw [List.mem_map]
  constructor
  · rintro ⟨x, hx, rfl⟩
    obtain ⟨r, hr, ht, hp⟩ := (mem_entriesWith ..).1 hx
    obtain ⟨h1, h2, h3, h4⟩ := (isWaitingHeader_iff v r).1 ht
    exact ⟨x.2, r, hr, h1, h2, h3, h4, hp⟩
  · rintro ⟨e, r, hr, h1, h2, h3, h4, hp⟩
    exact ⟨(place, e), (mem_entriesWith ..).2 ⟨r, hr, (isWaitingHeader_iff v r).2 ⟨h1, h2, h3, h4⟩, hp⟩, rfl⟩

theorem waitingHeaders_sorted (s : State) (v : ViewId) : (s.waitingHeaders v).Pairwise (· ≤ ·) :=
  List.pairwise_map.2 (sorted_entriesWith s _)

/-- A record holds a DRAINING output frame. -/
def State.drains (s : State) (v : ViewId) (f : FrameName) : Prop :=
  ∃ o, s.comp.views[v].frame f = some o ∧ o.status = .draining

/-- A read of the view is in flight on a record. -/
def State.hasReads (s : State) (v : ViewId) (f : FrameName) : Prop :=
  ∃ (e : EntryId) (r : ReadEntry), s.comp.table[e].read = some r ∧ r.view = v ∧ r.frame = .record f

theorem isDraining_iff (s : State) (v : ViewId) (f : FrameName) :
    s.comp.views[v].isDraining f = true ↔ s.drains v f := by
  unfold View.isDraining State.drains
  cases s.comp.views[v].frame f with
  | none => exact iff_of_false Bool.false_ne_true fun ⟨_, h, _⟩ => Option.some_ne_none _ h.symm
  | some o => simp

theorem inFlight_ne_zero (s : State) (v : ViewId) (f : FrameName) : (s.inFlight v f != 0) = true ↔ s.hasReads v f := by
  rw [bne_iff_ne, Ne, inFlight_eq_zero, not_not]
  rfl

theorem exists_frameName (P : FrameName → Prop) : (∃ f, P f) ↔ P .a ∨ P .b :=
  ⟨fun ⟨f, h⟩ => by cases f; exacts [.inl h, .inr h], fun h => h.elim (fun h => ⟨_, h⟩) fun h => ⟨_, h⟩⟩

theorem drainBlocked_iff (s : State) (v : ViewId) :
    s.drainBlocked v = true ↔ ∃ f, s.drains v f ∧ s.hasReads v f := by
  unfold State.drainBlocked
  rw [exists_frameName]
  simp only [Bool.or_eq_true, Bool.and_eq_true, isDraining_iff, inFlight_ne_zero]

theorem closeIfDrained_stays {f : FrameName} (h : s.drains v f → s.hasReads v f) : s.closeIfDrained v f = s := by
  refine if_neg ?_
  rw [Bool.and_eq_true, isDraining_iff, beq_iff_eq, inFlight_eq_zero]
  exact fun ⟨hd, hno⟩ => hno (h hd)

theorem closeIfDrained_closes {f : FrameName} (hd : s.drains v f) (hno : ¬s.hasReads v f) :
    s.closeIfDrained v f = s.closeFrame v f := by
  refine if_pos ?_
  rw [Bool.and_eq_true, isDraining_iff, beq_iff_eq, inFlight_eq_zero]
  exact ⟨hd, hno⟩

/-- Where no frame is to close, the waiting header reads are all that is left. -/
theorem afterLeave_of_reads (h : ∀ f, s.drains v f → s.hasReads v f) :
    s.afterLeave v = openWaiting v (s.waitingHeaders v) s := by
  unfold State.afterLeave
  rw [closeIfDrained_stays (h .a), closeIfDrained_stays (h .b)]

theorem openWaiting_blocked (h : s.drainBlocked v = true) (ps : List Nat) : openWaiting v ps s = s := by
  cases ps with
  | nil => rfl
  | cons p ps => exact if_pos h

/-- Header reads that open one after another, up to the last or to a block. -/
theorem openWaiting_chain (ps : List Nat) (z : Nat → State) {n : Nat} (hn : n ≤ ps.length)
    (hstep : ∀ k place, k < n → ps[k]? = some place →
      (z k).drainBlocked v = false ∧ (z k).openHeader v place = z (k + 1))
    (hend : n = ps.length ∨ (z n).drainBlocked v = true) : openWaiting v ps (z 0) = z n := by
  induction n generalizing ps z with
  | zero =>
    obtain h | h := hend
    · rw [List.length_eq_zero_iff.1 h.symm]
      rfl
    · exact openWaiting_blocked h ps
  | succ n ih =>
    cases ps with
    | nil => exact absurd hn (Nat.not_succ_le_zero n)
    | cons p ps =>
      obtain ⟨hfree, hopen⟩ := hstep 0 p (Nat.succ_pos n) rfl
      rw [openWaiting, if_neg (by rw [hfree]; decide), hopen]
      exact ih ps (fun k => z (k + 1)) (Nat.le_of_succ_le_succ hn)
        (fun k place hk hp => hstep (k + 1) place (Nat.succ_lt_succ hk) hp)
        (hend.imp_left fun h => Nat.succ.inj h)

/-- What the opening of a waiting header read releases, given as its entries in order. -/
theorem openHeader_of_entries {place : Nat} {f : FrameName} {o : OutputFrame} {es : List (Nat × EntryId)}
    (hname : (s.openFrame v).comp.views[v].openName = some f)
    (hframe : (s.openFrame v).comp.views[v].frame f = some o) (hes : es.Pairwise fun a b => a.1 < b.1)
    (hmem : ∀ x, x ∈ es ↔ ∃ r, (s.openFrame v).comp.table[x.2].read = some r ∧ r.place = x.1 ∧ r.view = v
      ∧ r.frame = .awaiting place) :
    s.openHeader v place = es.foldl (fun y x => State.releaseEntry f o y x.2) (s.openFrame v) := by
  have hlist : (s.openFrame v).entriesWith (fun r => r.view == v && r.frame == .awaiting place) = es := by
    refine entriesWith_eq _ _ es hes fun x => (hmem x).trans (exists_congr fun r => and_congr_right fun _ => ?_)
    rw [Bool.and_eq_true, beq_iff_eq, beq_iff_eq]
    exact and_comm
  unfold State.openHeader
  dsimp only
  rw [hname]
  dsimp only
  rw [hframe]
  show State.releaseWaiting _ _ _ _ _ = _
  unfold State.releaseWaiting
  rw [hlist, List.foldl_map]

/-- A frame that is closed leaves the other record, and nothing of it drains. -/
theorem closeFrame_drains {f g : FrameName} : (s.closeFrame v f).drains v g ↔ g ≠ f ∧ s.drains v g := by
  have hview : (s.closeFrame v f).comp.views[v] = s.comp.views[v].setFrame f none :=
    (upd_get ..).trans (if_pos rfl)
  unfold State.drains
  rw [hview]
  by_cases h : g = f
  · subst h
    rw [View.setFrame_same]
    exact iff_of_false (fun ⟨_, h, _⟩ => Option.some_ne_none _ h.symm) fun h => h.1 rfl
  · rw [View.setFrame_ne _ _ _ _ (Ne.symm h)]
    exact (and_iff_right h).symm

theorem eq_other_of_ne {f g : FrameName} (h : g ≠ f) : g = f.other := by
  cases f <;> cases g
  all_goals first | rfl | exact absurd rfl h

/-- A DRAINING frame without reads closes; the rest follows as without it. -/
theorem afterLeave_closes {f : FrameName} (hd : s.drains v f) (hno : ¬s.hasReads v f) (hother : ¬s.drains v f.other) :
    s.afterLeave v = openWaiting v (s.waitingHeaders v) (s.closeFrame v f)
      ∧ (s.closeFrame v f).afterLeave v = openWaiting v (s.waitingHeaders v) (s.closeFrame v f) := by
  have hnone : ∀ g, ¬(s.closeFrame v f).drains v g := by
    intro g hg
    obtain ⟨hne, hdrains⟩ := closeFrame_drains.1 hg
    exact hother (eq_other_of_ne hne ▸ hdrains)
  refine ⟨?_, afterLeave_of_reads fun g hg => absurd hg (hnone g)⟩
  unfold State.afterLeave
  cases f with
  | a =>
    rw [closeIfDrained_closes hd hno, closeIfDrained_stays fun h => absurd h (hnone .b)]
    rfl
  | b =>
    rw [closeIfDrained_stays (f := .a) fun h => absurd h hother, closeIfDrained_closes hd hno]
    rfl

end

/-! ### Output pixels (R68, R69, R140 to R142) -/

theorem clampCoord_eq (size : Nat) (c : Int) : clampCoord size c = (max 0 (min c (256 * ((size : Int) - 1)))).toNat := by
  unfold clampCoord clampInt coordMax
  split <;> omega

section
variable {w : View} {o : OutputFrame} {source : List SourceRun} {x y : Nat}

/-- An output pixel of S alone. -/
theorem outputPixel_single (h : o.second = none) :
    outputPixel w o source x y = o.serving.elim .black fun p => partPixel w source false p x y := by
  unfold outputPixel
  rw [h]

/-- An output pixel in a fade. -/
theorem outputPixel_blended {q : Part} (h : o.second = some q) : outputPixel w o source x y =
    let a := o.serving.elim .black fun p => partPixel w source false p x y
    let b := partPixel w source true q x y
    { y := blend a.y b.y o.latched.alpha, cb := blend a.cb b.cb o.latched.alpha
      cr := blend a.cr b.cr o.latched.alpha } := by
  unfold outputPixel
  rw [h]

end

/-- The word of the first run that holds it. -/
theorem sourceWord_eq {source pre post : List SourceRun} {run : SourceRun} {second : Bool} {row col : Nat}
    (hs : source = pre ++ run :: post)
    (hpre : ∀ z ∈ pre, ¬(z.second = second ∧ z.row = row ∧ z.col ≤ col ∧ col < z.col + z.words.length))
    (hrun : run.second = second ∧ run.row = row ∧ run.col ≤ col ∧ col < run.col + run.words.length) :
    run.words[col - run.col]? = some (sourceWord source second row col) := by
  obtain ⟨h1, h2, h3, h4⟩ := hrun
  have hlt : col - run.col < run.words.length := by omega
  have hnone : pre.findSome? (fun r =>
      if r.second = second ∧ r.row = row ∧ r.col ≤ col then r.words[col - r.col]? else none) = none := by
    rw [List.findSome?_eq_none_iff]
    intro z hz
    split
    · next hc =>
      obtain ⟨c1, c2, c3⟩ := hc
      refine List.getElem?_eq_none ?_
      have := hpre z hz
      by_contra hlt
      exact this ⟨c1, c2, c3, by omega⟩
    · rfl
  unfold sourceWord
  rw [hs, List.findSome?_append, hnone, Option.none_or, List.findSome?_cons, if_pos ⟨h1, h2, h3⟩,
    List.getElem?_eq_getElem hlt]
  rfl

/-- Settles O56: the answer's bytes by `pixelAreaByte_eq`; what follows by `afterLeave_of_reads`, `openWaiting_chain` and
`afterLeave_closes`; the pixels by `clampCoord_eq` and `sourceWord_eq`. -/
theorem viewReadCompletes : Obligations.ViewReadCompletes := by
  refine ⟨fun t e r f o s hr hst hf ho => ?completes, fun v s => ?leaves, fun w o source x y => ?pixels,
    fun source pre post run second row col => ?word⟩
  case completes =>
    intro w bytes
    have hbytes : pixelAnswer w o r.source r.offset r.len = bytes :=
      List.map_congr_left fun i _ => pixelAreaByte_eq w _ _
    rw [exec_viewReadCompletion, completeRead_of_complete (s := s.atTime t) hr hst hf ho, ← hbytes]
    rfl
  case leaves =>
    intro readsIn drainingIn reads draining blocked opens
    have hopens : ∀ z place z', opens z place z' → z.openHeader v place = z' := by
      rintro z place z' ⟨f, o, hname, hframe, es, hes, hmem, hz⟩
      rw [openHeader_of_entries hname hframe hes hmem, hz]
      congr 1
      funext y x
      unfold State.releaseEntry
      cases y.comp.table[x.2].read with
      | none => rfl
      | some r =>
        dsimp only
        cases r.kind <;> rfl
    refine ⟨mem_waitingHeaders, waitingHeaders_sorted s v, fun hall => ⟨fun h => ?stays, fun n z hz hn hstep hend => ?chain⟩,
      fun f hd hno hother => ?closes⟩
    case stays =>
      rw [afterLeave_of_reads hall]
      obtain h | ⟨f, hd⟩ := h
      · rw [h]
        rfl
      · exact openWaiting_blocked ((drainBlocked_iff s v).2 ⟨f, hd, hall f hd⟩) _
    case chain =>
      rw [afterLeave_of_reads hall]
      subst hz
      refine openWaiting_chain _ z hn (fun k place hk hp => ?_) (hend.imp_right (drainBlocked_iff _ v).2)
      obtain ⟨hfree, hopen⟩ := hstep k place hk hp
      refine ⟨?_, hopens _ _ _ hopen⟩
      rw [← Bool.not_eq_true, drainBlocked_iff]
      exact hfree
    case closes =>
      intro closed
      obtain ⟨h1, h2⟩ := afterLeave_closes hd hno hother
      exact ⟨h1.trans h2.symm, fun hw => h1.trans (by rw [hw]; rfl)⟩
  case pixels =>
    intro sample interpolated corrected mixed a
    have hsplit : ∀ (centre offset : Int) (step n i size : Nat),
        splitCoord size (sampleCoord centre offset step n i) =
          let k := sample centre offset step n i size
          ⟨k / 256, min (k / 256 + 1) (size - 1), k % 256⟩ := fun centre offset step n i size => by
      unfold splitCoord
      rw [clampCoord_eq]
      rfl
    have hpart : ∀ second p, partPixel w source second p x y = corrected second p := by
      intro second p
      by_cases hslot : p.slot = none
      · exact (if_pos (Option.isNone_iff_eq_none.2 hslot)).trans (if_pos hslot).symm
      · refine (if_neg fun h => hslot (Option.isNone_iff_eq_none.1 h)).trans (Eq.trans ?_ (if_neg hslot).symm)
        have hx : p.sampleX w x = _ := hsplit ..
        have hy : p.sampleY w y = _ := hsplit ..
        dsimp only
        rw [hx, hy]
        simp only [interpolated, Nat.div_one]
        rfl
    have ha : o.serving.elim .black (fun p => partPixel w source false p x y) = a := by
      simp only [hpart]
      rfl
    refine ⟨fun hnone => ?_, fun q hq => ?_⟩
    · rw [outputPixel_single hnone, ha]
    · intro b
      rw [outputPixel_blended hq, ha, hpart]
      rfl
  case word =>
    intro holds hs hpre hrun
    exact sourceWord_eq hs hpre hrun

end Sys2Proof.Machine
end
